-- ==== Sys2Proof/Word.lean ====
section
/-! DEFINITION. The byte of the two wires of the Selwade 7140 and its plainest packing: every multi-byte
field is sent most significant byte first (10_control_port_and_notices.md, Formats). -/

namespace Sys2Proof

/-- One byte of a control port or site line frame. -/
abbrev Byte := BitVec 8

/-- The number spelled by bytes, most significant byte first. -/
def beNat (bs : List Byte) : Nat :=
  bs.foldl (fun acc b => acc * 256 + b.toNat) 0

/-- `k` bytes of `n`, most significant first. -/
def beBytes : Nat → Nat → List Byte
  | 0, _ => []
  | k + 1, n => beBytes k (n / 256) ++ [BitVec.ofNat 8 n]

end Sys2Proof
end

