-- ==== Sys2Proof/Config.lean ====
section
/-! DEFINITION. What the part fixes (the capacities of 00_scope.md and the constants of the chapters),
and the free values, which the manual leaves open and no proof can see. -/

namespace Sys2Proof.Config

/-! Capacities (00_scope.md, "Capacities"). -/

def sets : Nat := 48
def tagBuckets : Nat := 127
def bucketSize : Nat := 2
def tanks : Nat := 64
def zones : Nat := 16
def buses : Nat := 32
def inputs : Nat := 4
def feeders : Nat := 160
def switchPoints : Nat := 2
def accounts : Nat := 64
def drawList : Nat := 16
def setsPerTank : Nat := 4
def suppliesMax : Nat := 8
def contexts : Nat := 2
def nominations : Nat := 8
def nodes : Nat := 62
def notices : Nat := 32
/-- The part's own address on the site line (R167, R179). -/
def ownAddress : Nat := 1
/-- Queue entries any frame may take, and those kept for ORDER frames (R180). -/
def generalEntries : Nat := 12
def keptEntries : Nat := 4
/-- The order backlog (R181). -/
def backlog : Nat := 128
def inboundSlots : Nat := 4
def payloadMax : Nat := 32
/-- Outstanding polls of a pass (R66). -/
def pollsOffered : Nat := 4

/-! Transaction codes of the control port (10, "Formats"). -/

def writeCode : Byte := 0x01
def readCode : Byte := 0x02

/-! Ranges. -/

/-- The largest value of 32 bits: tags, the saturating ml counts, the site clock. -/
def max32 : Nat := 4294967295
/-- A meter register counts 0 to 16,777,215 and wraps (R70). -/
def meterModulus : Nat := 16777216
/-- The variance since fill saturates at both ends (02, the tank record). -/
def varianceMax : Int := 2147483647
def enduranceMax : Nat := 1440

/-! Times in seconds. -/

def fuelWait : Nat := 600
def warmUp : Nat := 180
def syncPhase : Nat := 60
def closePhase : Nat := 2
def releasePhase : Nat := 5
def tripPhase : Nat := 2
def openPhase : Nat := 2
def deadPhase : Nat := 10
def gatheringWindow : Nat := 90
def fillTime : Nat := 1200
def settleTime : Nat := 15

/-! Free values. -/

/-- DESIGN CHOICE (log 11): the four bytes a field pair carries for a value of 2^32 or more, which the
manual does not state. -/
opaque wideValue : Nat → BitVec 32

/-- DESIGN CHOICE (log 12): which of the 129 frames is lost when an ORDER is offered to a backlog that
holds 128 ORDER frames (taken modulo 129; the argument numbers the offered frame). R181 names a victim
only where the backlog holds a REPLY. -/
opaque backlogVictim : Nat → Nat

/-- DESIGN CHOICE (log 49): the recent rate a set takes when the rate R31 computes lies above its range of 32
bits, which the manual does not state. The argument is the rate as computed. -/
opaque rateBeyond : Nat → BitVec 32

end Sys2Proof.Config
end

