-- ==== Sys2Proof/Syntax.lean ====
section
/-! DEFINITION. The commands of the Selwade 7140: one constructor for each row of spec/opcode_table.json.
A command is an event the part takes: a pin or bus event from outside, a request or frame that waits in
a slot, or the expiry of a timer. -/

namespace Sys2Proof

/-- Where a request waits: in the control port's request slot, or in one of the four inbound slots of
the site line (R174, R187). -/
inductive Source where
  | port
  | slot (n : Nat)
  deriving DecidableEq, Repr

/-- What the destination puts in the acknowledgement slot of a frame the part sends (R183). -/
inductive AckAnswer where
  | ack
  | hold
  | refuse
  | nothing
  deriving DecidableEq, Repr

/-- One command, named by the rule its row cites. -/
inductive Instr where
  /-- COLD_START (R198). -/
  | coldStart
  /-- LINE_RESET (R190): RESET is asserted, or power-up with the retention supply kept. -/
  | lineReset
  /-- LINE_RESET_RELEASE (R199). -/
  | lineResetRelease
  /-- READ (R193): a READ transaction that clocks out this many whole bytes. -/
  | read (clocked : Nat)
  /-- WRITE (R192, R194): the whole bytes of a transaction, its transaction code first, and the bits clocked
  beyond the last whole byte. -/
  | write (bytes : List Byte) (extraBits : Nat)
  /-- LOOKUP (R163). -/
  | lookup (src : Source)
  /-- FIND (R163). -/
  | find (src : Source)
  /-- ENROL (R164). -/
  | enrol (src : Source)
  /-- AMEND (R165). -/
  | amend (src : Source)
  /-- RETIRE (R166). -/
  | retire (src : Source)
  /-- CHANGEOVER (R87). -/
  | changeover (src : Source)
  /-- CANCEL_CHANGEOVER (R100). -/
  | cancelChangeover (src : Source)
  /-- CONFIRM_SUPPLY (R111). -/
  | confirmSupply (src : Source)
  /-- DIP_ENTRY (R38). -/
  | dipEntry (src : Source)
  /-- RESEAT_FEEDER (R74). -/
  | reseatFeeder (src : Source)
  /-- START_PASS (R63). -/
  | startPass (src : Source)
  /-- OPEN_DELIVERY (R117). -/
  | openDelivery (src : Source)
  /-- NOMINATE (R118). -/
  | nominate (src : Source)
  /-- SUSPEND_DELIVERY (R128). -/
  | suspendDelivery (src : Source)
  /-- RESUME_DELIVERY (R125, R128). -/
  | resumeDelivery (src : Source)
  /-- SKIP_NOMINATION (R127). -/
  | skipNomination (src : Source)
  /-- ABANDON_DELIVERY (R134). -/
  | abandonDelivery (src : Source)
  /-- COLLECT_DOCKET (R136). -/
  | collectDocket (src : Source)
  /-- CLOSE_PERIOD (R147). -/
  | closePeriod (src : Source)
  /-- COLLECT_STATEMENT (R158). -/
  | collectStatement (src : Source)
  /-- TAKE_NOTICE (R197). -/
  | takeNotice (src : Source)
  /-- FRAME_RECEIVE (R186): the bytes of a frame on the line, from its first byte to its CRC. -/
  | frameReceive (bytes : List Byte)
  /-- RECEIVE_HOLD_EXPIRY (R186). -/
  | receiveHoldExpiry
  /-- STATE (R11): dispatch of an inbound slot. -/
  | state (slot : Nat)
  /-- SYNC_OK (R93): dispatch of an inbound slot. -/
  | syncOk (slot : Nat)
  /-- INPUTS (R92): dispatch of an inbound slot. -/
  | inputs (slot : Nat)
  /-- LEVEL (R35): dispatch of an inbound slot. -/
  | level (slot : Nat)
  /-- READING (R69): dispatch of an inbound slot. -/
  | reading (slot : Nat)
  /-- BOWSER_METER (R122): dispatch of an inbound slot. -/
  | bowserMeter (slot : Nat)
  /-- HOSE_DONE (R123): dispatch of an inbound slot. -/
  | hoseDone (slot : Nat)
  /-- RESULT (R13): dispatch of an inbound slot. -/
  | result (slot : Nat)
  /-- VALVE_SHUT_REPLY (R129): dispatch of an inbound slot. -/
  | valveShutReply (slot : Nat)
  /-- SEND_FRAME (R182): on an idle line the part offers a frame, against other nodes that begin one at
  the same time (class value and source address of each, R179); `answer` is what the destination
  drives when the part wins. -/
  | sendFrame (contenders : List (Nat × Nat)) (answer : AckAnswer)
  /-- SEND_HOLD_ANSWER (R183): the final ACK or REFUSE of a destination that answered HOLD. -/
  | sendHoldAnswer (accepted : Bool)
  /-- SEND_HOLD_EXPIRY (R183). -/
  | sendHoldExpiry
  /-- REPLY_DEADLINE (R184): the 200 ms deadline of the exchange open with a node expires. -/
  | replyDeadline (node : Nat)
  /-- MINUTE_TICK (R145, R19). -/
  | minuteTick
  /-- SCAN_DEADLINE (R62). -/
  | scanDeadline
  /-- COOL_DOWN_DEADLINE (R15) of a set. -/
  | coolDownDeadline (set : Nat)
  /-- WARM_UP_DEADLINE (R90) of a bus. -/
  | warmUpDeadline (bus : Nat)
  /-- FUEL_WAIT_DEADLINE (R90) of a bus. -/
  | fuelWaitDeadline (bus : Nat)
  /-- PHASE_DEADLINE (R93 to R98) of a bus. -/
  | phaseDeadline (bus : Nat)
  /-- GATHERING_DEADLINE (R119) of a delivery context. -/
  | gatheringDeadline (ctx : Nat)
  /-- FILL_DEADLINE (R124) of a delivery context. -/
  | fillDeadline (ctx : Nat)
  /-- SETTLE_DEADLINE (R129) of a delivery context. -/
  | settleDeadline (ctx : Nat)
  /-- UNKNOWN_KIND_FRAME (R187): dispatch of an inbound slot. -/
  | unknownKindFrame (slot : Nat)
  deriving DecidableEq, Repr

end Sys2Proof
end

