-- ==== Sys2Proof/WellFormed.lean ====
section
/-! DEFINITION. Which commands the outside world can send: the ranges of their operands. -/

namespace Sys2Proof

/-- An inbound slot is numbered 1 to 4 (R186). -/
def slotOk (n : Nat) : Bool := decide (1 ≤ n ∧ n ≤ Config.inboundSlots)

def Source.wf : Source → Bool
  | .port => true
  | .slot n => slotOk n

/-- A node other than the part that begins a frame: class 0 to 3, address 2 to 62 (R179). -/
def contenderOk (c : Nat × Nat) : Bool := decide (c.1 ≤ 3 ∧ 2 ≤ c.2 ∧ c.2 ≤ Config.nodes)

def setOk (n : Nat) : Bool := decide (1 ≤ n ∧ n ≤ Config.sets)
def busOk (n : Nat) : Bool := decide (1 ≤ n ∧ n ≤ Config.buses)
def ctxOk (n : Nat) : Bool := decide (1 ≤ n ∧ n ≤ Config.contexts)

/-- The operands of a command lie in the ranges of the records and wires they name. -/
def Instr.wf : Instr → Bool
  | .coldStart => true
  | .lineReset => true
  | .lineResetRelease => true
  | .read _ => true
  | .write _ extraBits => decide (extraBits < 8)
  | .lookup src => src.wf
  | .find src => src.wf
  | .enrol src => src.wf
  | .amend src => src.wf
  | .retire src => src.wf
  | .changeover src => src.wf
  | .cancelChangeover src => src.wf
  | .confirmSupply src => src.wf
  | .dipEntry src => src.wf
  | .reseatFeeder src => src.wf
  | .startPass src => src.wf
  | .openDelivery src => src.wf
  | .nominate src => src.wf
  | .suspendDelivery src => src.wf
  | .resumeDelivery src => src.wf
  | .skipNomination src => src.wf
  | .abandonDelivery src => src.wf
  | .collectDocket src => src.wf
  | .closePeriod src => src.wf
  | .collectStatement src => src.wf
  | .takeNotice src => src.wf
  | .frameReceive _ => true
  | .receiveHoldExpiry => true
  | .state slot => slotOk slot
  | .syncOk slot => slotOk slot
  | .inputs slot => slotOk slot
  | .level slot => slotOk slot
  | .reading slot => slotOk slot
  | .bowserMeter slot => slotOk slot
  | .hoseDone slot => slotOk slot
  | .result slot => slotOk slot
  | .valveShutReply slot => slotOk slot
  | .sendFrame contenders _ => contenders.all contenderOk
  | .sendHoldAnswer _ => true
  | .sendHoldExpiry => true
  | .replyDeadline node => decide (2 ≤ node ∧ node ≤ Config.nodes)
  | .minuteTick => true
  | .scanDeadline => true
  | .coolDownDeadline set => setOk set
  | .warmUpDeadline bus => busOk bus
  | .fuelWaitDeadline bus => busOk bus
  | .phaseDeadline bus => busOk bus
  | .gatheringDeadline ctx => ctxOk ctx
  | .fillDeadline ctx => ctxOk ctx
  | .settleDeadline ctx => ctxOk ctx
  | .unknownKindFrame slot => slotOk slot

end Sys2Proof
end

