-- ==== Sys2Proof/Machine/State.lean ====
section
/-! DEFINITION. Every piece of state the manual gives the Selwade 7140, as plain data, and the state right
after a cold start. A table lists only the records that are not FREE, by number, in rising order; a record
it does not list is FREE and holds the FREE values of its chapter. Fields marked "model's own" keep what
the manual describes only as "awaits its reply" or "in flight" (log 34). -/

namespace Sys2Proof.Machine

/-- A table: records by number, numbers strictly rising, FREE records not listed. -/
abbrev Tbl (α : Type) := List (Nat × α)

/-! ## Names of the manual -/

/-- Slot status of a set (R1). -/
inductive SlotStatus where
  | free | inUse | retiring
  deriving DecidableEq, Repr

/-- Op state of a set (01, "Operating state"). -/
inductive OpState where
  | stopped | starting | running | cooling | fault
  deriving DecidableEq, Repr

/-- Changeover role of a set. -/
inductive ChRole where
  | incoming | outgoing
  deriving DecidableEq, Repr

/-- Access codes (R171). -/
inductive AccessCode where
  | none | read | readRequest | readAmend | full
  deriving DecidableEq, Repr

/-- Bus states (03, "The bus record"). -/
inductive BusState where
  | steady | lost | pending | syncing | closingIn | overlap | opening | dead | uncertain
  deriving DecidableEq, Repr

/-- Changeover kinds; `opened` is the manual's OPEN. -/
inductive ChKind where
  | closed | opened | emergency
  deriving DecidableEq, Repr

/-- Overlap step (R82). -/
inductive OverlapStep where
  | releasing | tripping | backingOut
  deriving DecidableEq, Repr

/-- Roles of nodes (08, "The node table"). -/
inductive NodeRole where
  | equipment | stageStation | handheld
  deriving DecidableEq, Repr

/-- Account status (R139); `opened` is the manual's OPEN. -/
inductive AccountStatus where
  | free | opened | retiring | closedOut
  deriving DecidableEq, Repr

/-- Close state (07, "The period timer"); `opened` is the manual's OPEN. -/
inductive CloseState where
  | opened | due | closingPass | held
  deriving DecidableEq, Repr

/-- State of a delivery context (06, "The delivery context"). -/
inductive CtxState where
  | idle | gathering | dispensing | suspending | suspended | stalled | done
  deriving DecidableEq, Repr

/-- Status of a nomination. -/
inductive NomStatus where
  | waiting | filling | filled | skipped | overrun | unverified
  deriving DecidableEq, Repr

/-- Docket outcome (R135). -/
inductive DocketOutcome where
  | complete | abandoned | interrupted
  deriving DecidableEq, Repr

/-- Pass state (R61). -/
inductive PassState where
  | idle | running
  deriving DecidableEq, Repr

/-- The nine tables of 08, in the order of their codes 1 to 9. -/
inductive TableId where
  | sets | tanks | zones | buses | feeders | accounts | deliveries | nodes | site
  deriving DecidableEq, Repr

/-- The source of a request, kept as requester (R88) or opener (R117). -/
inductive Party where
  | port
  | node (address : Nat)
  deriving DecidableEq, Repr

/-- Outcomes of requests, in the order of their codes 0 to 17 (R175). -/
inductive Answer where
  | done | doneAdjusted | started | empty | noRecord | noRoom | duplicate | collision | inUse | busy
  | wrongState | tooLate | notPermitted | ringInvalid | outOfRange | notCabled | overRating | tankBusy
  deriving DecidableEq, Repr

/-- Notice kinds, in the order of their codes 1 to 21 (10, "Notice kinds"). -/
inductive NoticeKind where
  | restarted | setFault | setNoAnswer | setSilent | overload | drawPooled | lowFuel | tankDry
  | meterSuspect | passOverrun | changeoverSettled | changeoverAborted | busLost | busUncertain
  | standbyUnavailable | deliveryVoid | deliveryStalled | deliveryDone | periodClosed | closeHeld
  | unknownNode
  deriving DecidableEq, Repr

/-- Abort reasons, in the order of their codes 1 to 10 (R99). -/
inductive AbortReason where
  | incomingFault | warmupTimeout | fuelWaitTimeout | enduranceShort | syncTimeout | closeFailed
  | openFailed | cancelled | noAnswer | lineReset
  deriving DecidableEq, Repr

/-! ## Records of the tables -/

/-- The five points of a fuel curve (R29). -/
structure Curve where
  s0 : Nat := 0
  s1 : Nat := 0
  s2 : Nat := 0
  s3 : Nat := 0
  s4 : Nat := 0
  deriving DecidableEq, Repr

/-- The set record (01, "The set record"); the defaults are the FREE values of R1. -/
structure SetRec where
  status : SlotStatus := .free
  tag : Nat := 0
  node : Nat := 0
  rated : Nat := 0
  curve : Curve := {}
  noLoad : Nat := 0
  coolDown : Nat := 300
  tank : Option Nat := none
  pinned : Bool := false
  op : OpState := .stopped
  silent : Bool := false
  silentCount : Nat := 0
  coolDeadline : Option Nat := none
  supplies : Nat := 0
  chBus : Option Nat := none
  chRole : Option ChRole := none
  startedByCh : Bool := false
  standbyFor : Nat := 0
  hireMin : Nat := 0
  runMin : Nat := 0
  residue : Nat := 0
  recentRate : Nat := 0
  lastEstimate : Nat := 0
  energy : Nat := 0
  lastAvgW : Nat := 0
  periodEnergy : Nat := 0
  periodBurnt : Nat := 0
  totalBurnt : Nat := 0
  draws : List (Nat × Nat) := []
  pooled : Nat := 0
  /-- Model's own: which enrolment this is (R10, a reply taken after the record became FREE). -/
  serial : Nat := 0
  /-- Model's own: the START sent for the set's changeover that awaits its outcome (R86). -/
  startFrame : Option Nat := none
  deriving DecidableEq, Repr

/-- The tank record (02, "The tank record"); the defaults are the FREE values of R21. -/
structure TankRec where
  tag : Nat := 0
  gauge : Option Nat := none
  capacity : Nat := 0
  level : Nat := 0
  shortfall : Nat := 0
  overfill : Nat := 0
  variance : Int := 0
  lowThreshold : Nat := 120
  lowMark : Bool := false
  filling : Bool := false
  gaugeDeferred : Bool := false
  gaugeSuspect : Bool := false
  endurance : Nat := 1440
  suppliedSets : Nat := 0
  code : AccessCode := .none
  lastGauge : Option Nat := none
  lastFill : Option Nat := none
  /-- Model's own: which enrolment this is. -/
  serial : Nat := 0
  deriving DecidableEq, Repr

/-- The zone record (R45). -/
structure ZoneRec where
  tag : Nat := 0
  code1 : AccessCode := .none
  code3 : AccessCode := .none
  showHold : Bool := false
  busCount : Nat := 0
  deriving DecidableEq, Repr

/-- The bus record (03, "The bus record", and the overlap step of R82); the defaults are the FREE values
of R49. -/
structure BusRec where
  zone : Nat := 0
  panel : Nat := 0
  inputs : List (Option Nat) := []
  noBreak : Bool := false
  required : Nat := 0
  standby : Option Nat := none
  state : BusState := .lost
  supplying : Option Nat := none
  incoming : Option Nat := none
  kind : Option ChKind := none
  queued : Bool := false
  warmUp : Option Nat := none
  fuelWait : Option Nat := none
  phase : Option Nat := none
  deadSince : Option Nat := none
  requester : Option Party := none
  feederCount : Nat := 0
  step : Option OverlapStep := none
  /-- Model's own: the order whose reply the bus awaits in its state (R92). -/
  awaited : Option Nat := none
  /-- Model's own: the ASK_INPUTS that awaits its reply (R110). -/
  askFrame : Option Nat := none
  deriving DecidableEq, Repr

/-- A switch point (04, "Switch points"). -/
structure SwitchPoint where
  time : Nat
  setBefore : Option Nat
  deriving DecidableEq, Repr

/-- Model's own: a READ_METER whose outcome has not been taken (R67, R80, R74). -/
structure FeederRead where
  frame : Nat
  /-- Offered as a boundary read (R80), not by a pass. -/
  boundary : Bool
  /-- Serves as the running pass's poll of the feeder (R66, R67). -/
  servesPass : Bool
  /-- Serves as the boundary read asked while it was in flight (R80). -/
  servesBoundary : Bool := false
  /-- A RESEAT_FEEDER was taken while it was in flight, so its reply is discarded (R74). -/
  stale : Bool := false
  deriving DecidableEq, Repr

/-- The feeder record (03, "The feeder record"); the defaults are the FREE values of R56. -/
structure FeederRec where
  bus : Nat := 0
  account : Nat := 0
  meter : Nat := 0
  rating : Nat := 0
  refReading : Nat := 0
  refTime : Nat := 0
  lastDelta : Nat := 0
  lastAvgW : Nat := 0
  points : List SwitchPoint := []
  suspect : Bool := false
  unread : Bool := false
  estimated : Bool := false
  boundary : Bool := false
  /-- Model's own: the read in flight. -/
  inFlight : Option FeederRead := none
  deriving DecidableEq, Repr

/-- A statement (07, "The account record"). -/
structure Statement where
  period : Nat
  startTime : Nat
  endTime : Nat
  energy : Nat
  fuel : Nat
  charge : Nat
  collected : Bool
  overwritten : Bool
  deriving DecidableEq, Repr

/-- The account record (R139). -/
structure AccountRec where
  status : AccountStatus := .free
  tag : Nat := 0
  code : AccessCode := .none
  energyRate : Nat := 0
  fuelRate : Nat := 0
  periodWh : Nat := 0
  drawn : Bool := false
  periodFuel : Nat := 0
  feederCount : Nat := 0
  statement : Option Statement := none
  deriving DecidableEq, Repr

/-- A node entry (R167); the defaults are those of a FREE node. -/
structure NodeRec where
  role : NodeRole := .equipment
  ring : Nat := 3
  deriving DecidableEq, Repr

/-- A nomination (06, "The delivery context"). -/
structure Nomination where
  tank : Nat
  target : Option Nat := none
  status : NomStatus := .waiting
  delivered : Nat := 0
  startMeter : Option Nat := none
  deriving DecidableEq, Repr

/-- A delivery context; the defaults are the values of an IDLE context (R114). -/
structure Ctx where
  state : CtxState := .idle
  bowser : Option Nat := none
  opener : Option Party := none
  docket : Option Nat := none
  openTime : Option Nat := none
  endTime : Option Nat := none
  noms : List Nomination := []
  /-- Current index: the position, from 1, of the nomination being dealt with. -/
  current : Option Nat := none
  byRequest : Bool := false
  byChangeover : Bool := false
  gathering : Option Nat := none
  fill : Option Nat := none
  fillLeft : Option Nat := none
  settle : Option Nat := none
  haltSent : Bool := false
  progress : Nat := 0
  lastMeter : Nat := 0
  outcome : Option DocketOutcome := none
  /-- Model's own: which opening this is. -/
  serial : Nat := 0
  deriving DecidableEq, Repr

/-- The site record's own fields (R177, R144). -/
structure Site where
  scanInterval : Nat := 60
  periodLength : Nat := 60
  minuteCount : Nat := 0
  holdOption : Bool := false
  periodNumber : Nat := 1
  periodStart : Nat := 0
  closeState : CloseState := .opened
  unsourced : Nat := 0
  deriving DecidableEq, Repr

/-- An entry of the poll list (R65). -/
inductive Poll where
  | feeder (n : Nat)
  | set (n : Nat)
  deriving DecidableEq, Repr

/-- The pass record (R61). -/
structure Pass where
  state : PassState := .idle
  startTime : Option Nat := none
  closing : Bool := false
  polls : List Poll := []
  outstanding : Nat := 0
  scanDeadline : Option Nat := some 60
  deriving DecidableEq, Repr

/-! ## The site line -/

/-- Frame classes, in the order of their values 0 to 3 (R179). -/
inductive FrameClass where
  | alert | order | reply | query
  deriving DecidableEq, Repr

/-- What a frame the part sends is for: the offering block of R184, with the record its outcome concerns.
The serials tell a record from a later one of the same number. -/
inductive Purpose where
  /-- No reply is awaited, or the frame is a REPLY or an all-call. -/
  | nothing
  /-- START for a changeover; `cooling`: sent to a set in COOLING (R14, R88). -/
  | start (set serial : Nat) (cooling : Bool)
  /-- START that cancels a cool-down at the controller (R17). -/
  | startCancel (set serial : Nat)
  | cool (set serial : Nat)
  | stop (set serial : Nat)
  | sync (bus set serial : Nat)
  /-- CLOSE_INPUT, OPEN_INPUT or TRIP_INPUT whose reply a bus awaits. -/
  | panel (bus : Nat)
  | askInputs (bus : Nat)
  | readMeter (feeder : Nat)
  | askState (set serial : Nat)
  | askLevel (tank serial : Nat)
  /-- FILL for a nomination (its position) of a delivery. -/
  | fill (ctx serial nom : Nat)
  | valveShut (ctx serial : Nat)
  | valveOpen (ctx serial nom : Nat)
  deriving DecidableEq, Repr

/-- A frame the part has been asked to send. -/
structure OutFrame where
  id : Nat
  cls : FrameClass
  dest : Nat
  /-- Message kind code (10, "Formats"). -/
  kind : Nat
  payload : List Byte
  purpose : Purpose
  /-- The frame holds one of the four entries kept for ORDER frames (R180). -/
  kept : Bool := false
  deriving DecidableEq, Repr

/-- An open exchange (R184); its 200 ms reply deadline runs while it is open. -/
structure Exchange where
  id : Nat
  dest : Nat
  kind : Nat
  purpose : Purpose
  deriving DecidableEq, Repr

/-- A frame the part has taken from the line (R178). -/
structure InFrame where
  cls : FrameClass
  source : Nat
  kind : Nat
  payload : List Byte
  deriving DecidableEq, Repr

/-- An occupied inbound slot: its number 1 to 4, its frame, and the exchange the frame closed when it was
acknowledged (R184). -/
structure Slot where
  number : Nat
  frame : InFrame
  closes : Option Exchange
  deriving DecidableEq, Repr

/-- The Site Line Controller (09). -/
structure Line where
  queue : List OutFrame := []
  backlog : List OutFrame := []
  exchanges : List Exchange := []
  /-- Occupied inbound slots, in the order their frames were acknowledged. -/
  slots : List Slot := []
  /-- The incoming frame the part has answered HOLD (R186). -/
  rxHold : Option InFrame := none
  /-- The frame of the part's whose destination has answered HOLD (R183). -/
  txHold : Option Nat := none
  /-- Output: the bytes of the last frame the part drove on the line. -/
  sent : List Byte := []
  /-- Output: what the part last drove in an acknowledgement slot. -/
  answered : AckAnswer := .nothing
  deriving DecidableEq, Repr

/-! ## The control port -/

/-- A request frame that passed the framing checks (R161, R192). -/
structure Request where
  kind : Nat
  ring : Nat
  table : Nat
  selector : Nat
  index : Nat
  fields : List (Nat × Nat)
  deriving DecidableEq, Repr

/-- A notice (R195). -/
structure Notice where
  kind : NoticeKind
  table : TableId
  index : Nat
  value : Option Nat
  time : Nat
  deriving DecidableEq, Repr

/-- A response (R175, R197): the record number, the field pairs, and for TAKE_NOTICE the notice with the
number still queued. -/
structure Response where
  answer : Answer
  overrun : Bool := false
  overflow : Bool := false
  record : Nat := 0
  fields : List (Nat × Nat) := []
  notice : Option (Notice × Nat) := none
  deriving DecidableEq, Repr

/-- The Control Port (10). -/
structure Port where
  request : Option Request := none
  response : Option Response := none
  rdy : Bool := false
  attn : Bool := false
  overrun : Bool := false
  overflow : Bool := false
  notices : List Notice := []
  /-- Output: the bytes PDO gave in the last transaction but a WRITE, whose PDO the manual does not state. -/
  pdo : List Byte := []
  deriving DecidableEq, Repr

/-- What a line reset defers to its release (R112, R113, R137, R138, R44). -/
structure ResetWork where
  aborted : List Nat := []
  uncertain : List Nat := []
  ended : List Nat := []
  voided : List (Nat × Nat) := []
  interrupted : List Nat := []
  credited : List Nat := []
  deriving DecidableEq, Repr

/-! ## The machine -/

/-- Why the machine stops. -/
inductive Fault where
  /-- Raised by the passing of a second when the site clock stands at 4,294,967,295, the end of a range
  that "is not exhausted in service" (00_scope.md). Safe: the model stops where the manual says nothing. -/
  | siteClockExhausted
  deriving DecidableEq, Repr

/-- Why a command has no meaning. -/
inductive Refusal where
  /-- Raised by an arm of `exec` whose command has no meaning yet. Safe. -/
  | notModelled (mnemonic : String)
  deriving DecidableEq, Repr

structure State where
  /-- The site clock, seconds since cold start. -/
  clock : Nat
  /-- Model's own: how many multiples of 60 of the clock have had their minute tick (R19, R145, R160). -/
  minutesTaken : Nat
  /-- RESET is asserted. -/
  resetHeld : Bool
  /-- Model's own: the next frame id or record serial. -/
  nextId : Nat
  sets : Tbl SetRec
  /-- Tag index: buckets 0 to 126 that are not empty, each with its set numbers in order (R2). -/
  tagIndex : Tbl (List Nat)
  tanks : Tbl TankRec
  zones : Tbl ZoneRec
  buses : Tbl BusRec
  feeders : Tbl FeederRec
  accounts : Tbl AccountRec
  nodes : Tbl NodeRec
  ctx1 : Ctx
  ctx2 : Ctx
  site : Site
  pass : Pass
  line : Line
  port : Port
  resetWork : ResetWork
  /-- The commands that wait, first in, first out. -/
  pending : List Instr
  deriving DecidableEq, Repr

/-- RESTARTED with value 0 at time 0 (R198). -/
def coldNotice : Notice :=
  { kind := .restarted, table := .site, index := 1, value := some 0, time := 0 }

/-- Account 1 after a cold start: site overhead, OPEN, tag 1 (R139). -/
def overheadAccount : AccountRec := { status := .opened, tag := 1 }

/-- Node 1 after a cold start: the part itself (R167). -/
def ownNode : NodeRec := { role := .equipment, ring := 0 }

/-- The machine right after a cold start. -/
def State.reset : State where
  clock := 0
  minutesTaken := 0
  resetHeld := false
  nextId := 0
  sets := []
  tagIndex := []
  tanks := []
  zones := []
  buses := []
  feeders := []
  accounts := [(1, overheadAccount)]
  nodes := [(1, ownNode)]
  ctx1 := {}
  ctx2 := {}
  site := {}
  pass := {}
  line := {}
  port := { attn := true, notices := [coldNotice] }
  resetWork := {}
  pending := []

end Sys2Proof.Machine
end

