-- ==== Sys2Proof/Machine/Ops.lean ====
section
/-! DEFINITION. The named operations over tables, registers and notices that every block shares. -/

namespace Sys2Proof.Machine

/-! ## Tables -/

/-- The record of number `n`, none when it is FREE. -/
def Tbl.find {α : Type} : Tbl α → Nat → Option α
  | [], _ => none
  | (k, a) :: t, n => if k = n then some a else Tbl.find t n

/-- Write record `n`, keeping the numbers rising. -/
def Tbl.put {α : Type} : Tbl α → Nat → α → Tbl α
  | [], n, a => [(n, a)]
  | (k, b) :: t, n, a =>
    if k = n then (n, a) :: t
    else if n < k then (n, a) :: (k, b) :: t
    else (k, b) :: Tbl.put t n a

/-- Make record `n` FREE. -/
def Tbl.del {α : Type} (t : Tbl α) (n : Nat) : Tbl α :=
  t.filter (fun e => e.1 ≠ n)

/-- Change record `n` where it is listed. -/
def Tbl.upd {α : Type} (t : Tbl α) (n : Nat) (f : α → α) : Tbl α :=
  t.map (fun e => if e.1 = n then (e.1, f e.2) else e)

/-- Change every listed record. -/
def Tbl.updAll {α : Type} (t : Tbl α) (f : α → α) : Tbl α :=
  t.map (fun e => (e.1, f e.2))

/-- The numbers of the records that are not FREE, rising. -/
def Tbl.nums {α : Type} (t : Tbl α) : List Nat := t.map Prod.fst

/-- The number of the first record, in rising order, that meets a test (and is listed). -/
def Tbl.numWhere {α : Type} (t : Tbl α) (p : α → Bool) : Option Nat :=
  (t.find? (fun e => p e.2)).map Prod.fst

/-- The lowest-numbered FREE record of a table of `cap` records (R5, R162). -/
def Tbl.lowestFree {α : Type} (t : Tbl α) (cap : Nat) : Option Nat :=
  (List.range' 1 cap).find? (fun n => (Tbl.find t n).isNone)

/-- The numbers of a table rise strictly and lie between 1 and its capacity. -/
def Tbl.wf {α : Type} (t : Tbl α) (cap : Nat) : Bool :=
  decide (t.nums.Pairwise (· < ·)) && t.nums.all (fun n => decide (1 ≤ n ∧ n ≤ cap))

/-! ## Fields of the state -/

def State.onSets (f : Tbl SetRec → Tbl SetRec) (s : State) : State := { s with sets := f s.sets }
def State.onTagIndex (f : Tbl (List Nat) → Tbl (List Nat)) (s : State) : State :=
  { s with tagIndex := f s.tagIndex }
def State.onTanks (f : Tbl TankRec → Tbl TankRec) (s : State) : State := { s with tanks := f s.tanks }
def State.onZones (f : Tbl ZoneRec → Tbl ZoneRec) (s : State) : State := { s with zones := f s.zones }
def State.onBuses (f : Tbl BusRec → Tbl BusRec) (s : State) : State := { s with buses := f s.buses }
def State.onFeeders (f : Tbl FeederRec → Tbl FeederRec) (s : State) : State :=
  { s with feeders := f s.feeders }
def State.onAccounts (f : Tbl AccountRec → Tbl AccountRec) (s : State) : State :=
  { s with accounts := f s.accounts }
def State.onNodes (f : Tbl NodeRec → Tbl NodeRec) (s : State) : State := { s with nodes := f s.nodes }
def State.onCtx1 (f : Ctx → Ctx) (s : State) : State := { s with ctx1 := f s.ctx1 }
def State.onCtx2 (f : Ctx → Ctx) (s : State) : State := { s with ctx2 := f s.ctx2 }
def State.onSite (f : Site → Site) (s : State) : State := { s with site := f s.site }
def State.onPass (f : Pass → Pass) (s : State) : State := { s with pass := f s.pass }
def State.onLine (f : Line → Line) (s : State) : State := { s with line := f s.line }
def State.onPort (f : Port → Port) (s : State) : State := { s with port := f s.port }
def State.onResetWork (f : ResetWork → ResetWork) (s : State) : State :=
  { s with resetWork := f s.resetWork }
def State.setClock (n : Nat) (s : State) : State := { s with clock := n }
def State.setMinutesTaken (n : Nat) (s : State) : State := { s with minutesTaken := n }
def State.setResetHeld (b : Bool) (s : State) : State := { s with resetHeld := b }
def State.setPending (q : List Instr) (s : State) : State := { s with pending := q }
/-- Use up one id. -/
def State.bumpId (s : State) : State := { s with nextId := s.nextId + 1 }

/-! ## Records -/

def State.set? (s : State) (n : Nat) : Option SetRec := s.sets.find n
def State.tank? (s : State) (n : Nat) : Option TankRec := s.tanks.find n
def State.zone? (s : State) (n : Nat) : Option ZoneRec := s.zones.find n
def State.bus? (s : State) (n : Nat) : Option BusRec := s.buses.find n
def State.feeder? (s : State) (n : Nat) : Option FeederRec := s.feeders.find n
def State.account? (s : State) (n : Nat) : Option AccountRec := s.accounts.find n
def State.node? (s : State) (n : Nat) : Option NodeRec := s.nodes.find n

/-- A set record as it reads: a FREE record holds the FREE values (R1). -/
def State.setRec (s : State) (n : Nat) : SetRec := (s.set? n).getD {}
/-- A tank record as it reads (R21). -/
def State.tankRec (s : State) (n : Nat) : TankRec := (s.tank? n).getD {}
/-- A zone record as it reads (R45). -/
def State.zoneRec (s : State) (n : Nat) : ZoneRec := (s.zone? n).getD {}
/-- A bus record as it reads (R49). -/
def State.busRec (s : State) (n : Nat) : BusRec := (s.bus? n).getD {}
/-- A feeder record as it reads (R56). -/
def State.feederRec (s : State) (n : Nat) : FeederRec := (s.feeder? n).getD {}
/-- An account record as it reads (R139). -/
def State.accountRec (s : State) (n : Nat) : AccountRec := (s.account? n).getD {}
/-- A node entry as it reads (R167). -/
def State.nodeRec (s : State) (n : Nat) : NodeRec := (s.node? n).getD {}
/-- A delivery context; contexts 1 and 2 always resolve (R114). -/
def State.ctx (s : State) (n : Nat) : Ctx := if n = 1 then s.ctx1 else s.ctx2

def State.updSet (n : Nat) (f : SetRec → SetRec) (s : State) : State := s.onSets (fun t => t.upd n f)
def State.updTank (n : Nat) (f : TankRec → TankRec) (s : State) : State := s.onTanks (fun t => t.upd n f)
def State.updZone (n : Nat) (f : ZoneRec → ZoneRec) (s : State) : State := s.onZones (fun t => t.upd n f)
def State.updBus (n : Nat) (f : BusRec → BusRec) (s : State) : State := s.onBuses (fun t => t.upd n f)
def State.updFeeder (n : Nat) (f : FeederRec → FeederRec) (s : State) : State :=
  s.onFeeders (fun t => t.upd n f)
def State.updAccount (n : Nat) (f : AccountRec → AccountRec) (s : State) : State :=
  s.onAccounts (fun t => t.upd n f)
def State.updCtx (n : Nat) (f : Ctx → Ctx) (s : State) : State :=
  if n = 1 then s.onCtx1 f else s.onCtx2 f

/-- Apply `f` to each number of a list in order. -/
def forEach {α : Type} (xs : List α) (f : α → State → State) (s : State) : State :=
  xs.foldl (fun t x => f x t) s

/-! ## Arithmetic -/

/-- A count of 32 bits that saturates (02, shortfall and overfill). -/
def satAdd32 (a b : Nat) : Nat := min (a + b) Config.max32

/-- The variance since fill saturates at both ends. -/
def satVariance (v : Int) : Int := max (-Config.varianceMax) (min v Config.varianceMax)

/-! ## Notices -/

/-- Kinds that coalesce (R196). -/
def NoticeKind.coalesces : NoticeKind → Bool
  | .lowFuel | .tankDry | .meterSuspect | .setSilent | .unknownNode | .drawPooled | .passOverrun
  | .overload => true
  | .restarted | .setFault | .setNoAnswer | .changeoverSettled | .changeoverAborted | .busLost
  | .busUncertain | .standbyUnavailable | .deliveryVoid | .deliveryStalled | .deliveryDone
  | .periodClosed | .closeHeld => false

/-- A notice of the same kind with the same subject (R196). -/
def Notice.sameSubject (a b : Notice) : Bool :=
  decide (a.kind = b.kind ∧ a.table = b.table ∧ a.index = b.index)

/-- Append a notice to the port's queue: held back by one of its kind and subject when the kind coalesces,
dropped with the overflow mark when the queue is full, and ATTN asserted with the first (R195, R196). -/
def Port.append (n : Notice) (p : Port) : Port :=
  if n.kind.coalesces && p.notices.any n.sameSubject then p
  else if Config.notices ≤ p.notices.length then { p with overflow := true }
  else { p with notices := p.notices ++ [n], attn := true }

/-- A block raises a notice: its time is the site clock reading of the event (R195). -/
def raise (kind : NoticeKind) (table : TableId) (index : Nat) (value : Option Nat) (s : State) : State :=
  s.onPort (Port.append { kind, table, index, value, time := s.clock })

end Sys2Proof.Machine
end

