-- ==== Sys2Proof/Machine/Flags.lean ====
section
/-! DEFINITION. The control port's flags and pins: RDY and ATTN, and the overrun and overflow marks with the
responses that carry them (R192 to R197). -/

namespace Sys2Proof.Machine

/-- Place a response in the response slot: the request slot is emptied, RDY asserted, and the overrun mark
written into the response and cleared (R192, R194). -/
def Port.respond (r : Response) (p : Port) : Port :=
  { p with
    request := none
    response := some { r with overrun := p.overrun }
    rdy := true
    overrun := false }

/-- A WRITE that finds a slot occupied is discarded and sets the overrun mark (R194). -/
def Port.discardWrite (p : Port) : Port := { p with overrun := true }

/-- A READ that clocked out the whole response empties the slot and deasserts RDY (R193). -/
def Port.taken (p : Port) : Port := { p with response := none, rdy := false }

/-- Remove the notice at the head of the queue; ATTN is deasserted with the last (R195). -/
def Port.dropHead (p : Port) : Port :=
  { p with notices := p.notices.tail, attn := !p.notices.tail.isEmpty }

/-- TAKE_NOTICE on the port: the head notice with the number still queued, or EMPTY; the response reports
the overflow mark and clears it (R197). -/
def Port.takeNotice (p : Port) : Port × Response :=
  match p.notices with
  | [] => ({ p with overflow := false }, { answer := .empty, overflow := p.overflow })
  | n :: rest =>
    ({ p.dropHead with overflow := false },
      { answer := .done, overflow := p.overflow, notice := some (n, rest.length) })

/-- A line reset: slots, marks and notices emptied, RDY and ATTN deasserted (R199). -/
def Port.lineReset (_ : Port) : Port := {}

/-- PDO gives 0: while RESET is asserted (R199), and over a transaction that is neither READ nor WRITE (R192). -/
def Port.zeros (n : Nat) (p : Port) : Port := { p with pdo := List.replicate n 0 }

/-- Bits 0 and 1 of the flags byte (10, "Formats"). -/
def Response.flags (r : Response) : Nat := r.overrun.toNat + 2 * r.overflow.toNat

end Sys2Proof.Machine
end

