-- ==== Sys2Proof/Machine/Operands.lean ====
section
/-! DEFINITION. The operand forms of requests and messages: the codes values have on the wire, and the
field pairs of a request (10, "Formats"). Codes the manual does not give number the values from 0 in the
order of the chapter's table (DESIGN CHOICE, log 5). -/

namespace Sys2Proof.Machine

/-! ## Codes -/

def TableId.code : TableId → Nat
  | .sets => 1 | .tanks => 2 | .zones => 3 | .buses => 4 | .feeders => 5 | .accounts => 6
  | .deliveries => 7 | .nodes => 8 | .site => 9

/-- The table of a code; 0 and codes above 9 name none. -/
def TableId.ofCode : Nat → Option TableId
  | 1 => some .sets | 2 => some .tanks | 3 => some .zones | 4 => some .buses | 5 => some .feeders
  | 6 => some .accounts | 7 => some .deliveries | 8 => some .nodes | 9 => some .site
  | _ => none

/-- Outcome codes 0 to 17 in the order of R175's table. -/
def Answer.code : Answer → Nat
  | .done => 0 | .doneAdjusted => 1 | .started => 2 | .empty => 3 | .noRecord => 4 | .noRoom => 5
  | .duplicate => 6 | .collision => 7 | .inUse => 8 | .busy => 9 | .wrongState => 10 | .tooLate => 11
  | .notPermitted => 12 | .ringInvalid => 13 | .outOfRange => 14 | .notCabled => 15
  | .overRating => 16 | .tankBusy => 17

def NoticeKind.code : NoticeKind → Nat
  | .restarted => 1 | .setFault => 2 | .setNoAnswer => 3 | .setSilent => 4 | .overload => 5
  | .drawPooled => 6 | .lowFuel => 7 | .tankDry => 8 | .meterSuspect => 9 | .passOverrun => 10
  | .changeoverSettled => 11 | .changeoverAborted => 12 | .busLost => 13 | .busUncertain => 14
  | .standbyUnavailable => 15 | .deliveryVoid => 16 | .deliveryStalled => 17 | .deliveryDone => 18
  | .periodClosed => 19 | .closeHeld => 20 | .unknownNode => 21

/-- Abort reasons carried by CHANGEOVER_ABORTED, 1 to 10. -/
def AbortReason.code : AbortReason → Nat
  | .incomingFault => 1 | .warmupTimeout => 2 | .fuelWaitTimeout => 3 | .enduranceShort => 4
  | .syncTimeout => 5 | .closeFailed => 6 | .openFailed => 7 | .cancelled => 8 | .noAnswer => 9
  | .lineReset => 10

/-- The value of DELIVERY_DONE: 1 COMPLETE, 2 ABANDONED, 3 INTERRUPTED. -/
def DocketOutcome.code : DocketOutcome → Nat
  | .complete => 1 | .abandoned => 2 | .interrupted => 3

/-- The kinds a CHANGEOVER carries are 1 CLOSED and 2 OPEN; EMERGENCY is numbered after them (log 5). -/
def ChKind.code : ChKind → Nat
  | .closed => 1 | .opened => 2 | .emergency => 3

def ChKind.ofCode : Nat → Option ChKind
  | 1 => some .closed | 2 => some .opened | _ => none

def SlotStatus.code : SlotStatus → Nat
  | .free => 0 | .inUse => 1 | .retiring => 2

def OpState.code : OpState → Nat
  | .stopped => 0 | .starting => 1 | .running => 2 | .cooling => 3 | .fault => 4

def OpState.ofCode : Nat → Option OpState
  | 0 => some .stopped | 1 => some .starting | 2 => some .running | 3 => some .cooling
  | 4 => some .fault | _ => none

def ChRole.code : ChRole → Nat
  | .incoming => 0 | .outgoing => 1

def AccessCode.code : AccessCode → Nat
  | .none => 0 | .read => 1 | .readRequest => 2 | .readAmend => 3 | .full => 4

def AccessCode.ofCode : Nat → Option AccessCode
  | 0 => some .none | 1 => some .read | 2 => some .readRequest | 3 => some .readAmend
  | 4 => some .full | _ => none

def BusState.code : BusState → Nat
  | .steady => 0 | .lost => 1 | .pending => 2 | .syncing => 3 | .closingIn => 4 | .overlap => 5
  | .opening => 6 | .dead => 7 | .uncertain => 8

def OverlapStep.code : OverlapStep → Nat
  | .releasing => 0 | .tripping => 1 | .backingOut => 2

def NodeRole.code : NodeRole → Nat
  | .equipment => 0 | .stageStation => 1 | .handheld => 2

def NodeRole.ofCode : Nat → Option NodeRole
  | 0 => some .equipment | 1 => some .stageStation | 2 => some .handheld | _ => none

def AccountStatus.code : AccountStatus → Nat
  | .free => 0 | .opened => 1 | .retiring => 2 | .closedOut => 3

def CloseState.code : CloseState → Nat
  | .opened => 0 | .due => 1 | .closingPass => 2 | .held => 3

def CtxState.code : CtxState → Nat
  | .idle => 0 | .gathering => 1 | .dispensing => 2 | .suspending => 3 | .suspended => 4
  | .stalled => 5 | .done => 6

def NomStatus.code : NomStatus → Nat
  | .waiting => 0 | .filling => 1 | .filled => 2 | .skipped => 3 | .overrun => 4 | .unverified => 5

def PassState.code : PassState → Nat
  | .idle => 0 | .running => 1

/-- A requester or opener: the node's address, and 0 for the control port (log 41). -/
def Party.code : Party → Nat
  | .port => 0
  | .node a => a

/-- A mark: 0 clear, 1 set. -/
def markOf : Nat → Option Bool
  | 0 => some false | 1 => some true | _ => none

/-- A value as the four bytes of a field pair hold it; the bytes of a value of 2^32 or more are a free
value (log 11). -/
def wire32 (v : Nat) : Nat := if v ≤ Config.max32 then v else (Config.wideValue v).toNat

/-- A signed value as 32 bits of two's complement (10, "Formats"). -/
def wireInt (v : Int) : Nat := (BitVec.ofInt 32 v).toNat

/-! ## Request kinds -/

/-- The 21 request kinds, by code. -/
inductive ReqKind where
  | lookup | find | enrol | amend | retire | changeover | cancelChangeover | confirmSupply | dipEntry
  | reseatFeeder | startPass | openDelivery | nominate | suspendDelivery | resumeDelivery
  | skipNomination | abandonDelivery | collectDocket | closePeriod | collectStatement | takeNotice
  deriving DecidableEq, Repr

def ReqKind.code : ReqKind → Nat
  | .lookup => 1 | .find => 2 | .enrol => 3 | .amend => 4 | .retire => 5 | .changeover => 6
  | .cancelChangeover => 7 | .confirmSupply => 8 | .dipEntry => 9 | .reseatFeeder => 10
  | .startPass => 11 | .openDelivery => 12 | .nominate => 13 | .suspendDelivery => 14
  | .resumeDelivery => 15 | .skipNomination => 16 | .abandonDelivery => 17 | .collectDocket => 18
  | .closePeriod => 19 | .collectStatement => 20 | .takeNotice => 21

def ReqKind.ofCode : Nat → Option ReqKind
  | 1 => some .lookup | 2 => some .find | 3 => some .enrol | 4 => some .amend | 5 => some .retire
  | 6 => some .changeover | 7 => some .cancelChangeover | 8 => some .confirmSupply
  | 9 => some .dipEntry | 10 => some .reseatFeeder | 11 => some .startPass
  | 12 => some .openDelivery | 13 => some .nominate | 14 => some .suspendDelivery
  | 15 => some .resumeDelivery | 16 => some .skipNomination | 17 => some .abandonDelivery
  | 18 => some .collectDocket | 19 => some .closePeriod | 20 => some .collectStatement
  | 21 => some .takeNotice | _ => none

/-! ## Field pairs -/

/-- A request's field pairs: field id and value. -/
abbrev Fields := List (Nat × Nat)

/-- The id of entry `entry`, from 1, of the list field at `place`. -/
def entryId (place entry : Nat) : Nat := 256 * entry + place

/-- The ids of the first `n` entries of the list field at `place`. -/
def entryIds (place n : Nat) : List Nat := (List.range' 1 n).map (entryId place)

/-- The value a list gives a field id. -/
def Fields.get (fs : Fields) (id : Nat) : Option Nat := (fs.find? (fun p => p.1 = id)).map Prod.snd

/-- An id the list names twice (R165). -/
def Fields.repeats (fs : Fields) : Bool := decide (¬ (fs.map Prod.fst).Nodup)

/-- The first refusal of a field list: each field is checked in order, with the fields before it (R165). -/
def Fields.firstRefusal (check : Nat → Nat → Option Answer) (seen : List Nat) : Fields → Option Answer
  | [] => none
  | (id, v) :: rest =>
    if id ∈ seen then some .outOfRange
    else match check id v with
      | some a => some a
      | none => Fields.firstRefusal check (id :: seen) rest

/-- The first of a list of checks that fails, with its refusal. -/
def firstFailing (checks : List (Bool × Answer)) : Option Answer :=
  (checks.find? (fun c => !c.1)).map Prod.snd

/-- A value from `lo` to `hi`. -/
def inRange (lo hi v : Nat) : Bool := decide (lo ≤ v ∧ v ≤ hi)

/-- An optional value from `lo` to `hi`. -/
def optInRange (lo hi : Nat) (v : Option Nat) : Bool := v.all (inRange lo hi)

/-- A value taken as the nearest of its range (R176). -/
def clamp (lo hi v : Nat) : Nat := max lo (min hi v)

/-- Reference fields: 0 makes the field absent (log 7). -/
def refOf (v : Nat) : Option Nat := if v = 0 then none else some v

/-- The list field of an ENROL or AMEND: the entries named are written over the present ones, and the list
reaches to the highest entry named (log 8). -/
def Fields.entries (fs : Fields) (place cap : Nat) (old : List (Option Nat)) : List (Option Nat) :=
  let named := (List.range' 1 cap).filter (fun k => (fs.get (entryId place k)).isSome)
  let len := max old.length (named.foldl max 0)
  (List.range' 1 len).map (fun k =>
    match fs.get (entryId place k) with
    | some v => refOf v
    | none => (old[k - 1]?).getD none)

/-- ENROL carries the fields `carried`; a field the table holds but ENROL does not carry is refused
NOT_PERMITTED, and one it does not hold OUT_OF_RANGE (log 10). -/
def Fields.enrolRefusal (fs : Fields) (carried held : List Nat) : Option Answer :=
  Fields.firstRefusal
    (fun id _ => if id ∈ carried then none else if id ∈ held then some .notPermitted else some .outOfRange)
    [] fs

/-- An operational request's parameters are numbered 1 to `n`; any other id, or one named twice, is
refused OUT_OF_RANGE (10, "Formats"). -/
def Fields.paramsOk (fs : Fields) (n : Nat) : Bool :=
  fs.all (fun p => inRange 1 n p.1) && !fs.repeats

/-- A response's pair for an optional value: absent, it is left out. -/
def optPair (id : Nat) (v : Option Nat) : List (Nat × Nat) := v.toList.map (fun x => (id, wire32 x))

/-- A response's pair. -/
def pair (id v : Nat) : List (Nat × Nat) := [(id, wire32 v)]

/-- A response's pair for a mark. -/
def markPair (id : Nat) (b : Bool) : List (Nat × Nat) := [(id, b.toNat)]

end Sys2Proof.Machine
end

