-- ==== Sys2Proof/Machine/Fields.lean ====
section
/-! DEFINITION. The fields of each table's records on the wire: their ids, and the pairs a LOOKUP returns
(R163, R162; 10, "Formats": the low byte of an id is the field's place in its chapter's record table, the
high byte the entry of a list field). The parts of a list of records follow the list's own place. Log 6
names the places the manual leaves open. -/

namespace Sys2Proof.Machine

/-! ## Ids each table holds -/

/-- The fields of a set: the curve (5) and the draw list (29) by their entries alone (log 66). -/
def setIds : List Nat :=
  [1, 2, 3, 4] ++ entryIds 5 5 ++ List.range' 6 23 ++ entryIds 30 Config.drawList
    ++ entryIds 31 Config.drawList ++ [32]
def tankIds : List Nat := List.range' 1 18
def zoneIds : List Nat := List.range' 1 6
/-- The fields of a bus: the inputs (4) by their entries alone (log 66). -/
def busIds : List Nat := [1, 2, 3] ++ entryIds 4 Config.inputs ++ List.range' 5 15
/-- The fields of a feeder: the pending switch points (10) by their points' parts alone, so that the bare id 10 is
no field (log 66). -/
def feederIds : List Nat :=
  List.range' 1 9 ++ entryIds 11 Config.switchPoints ++ entryIds 12 Config.switchPoints
    ++ List.range' 13 4
/-- The fields of an account: the statement, row 10 of its table, by its parts 11 to 18 alone, so that id 10 is no
field (log 66). -/
def accountIds : List Nat := List.range' 1 9 ++ List.range' 11 8
/-- The fields of a delivery context: the nominations (7) by their parts alone (log 66). -/
def deliveryIds : List Nat :=
  List.range' 1 6 ++ ([8, 9, 10, 11, 12].flatMap (fun p => entryIds p Config.nominations))
    ++ List.range' 13 10
def nodeIds : List Nat := [1, 2, 3]
def siteIds : List Nat := List.range' 1 15

/-- The field ids of a table. -/
def TableId.fieldIds : TableId → List Nat
  | .sets => setIds
  | .tanks => tankIds
  | .zones => zoneIds
  | .buses => busIds
  | .feeders => feederIds
  | .accounts => accountIds
  | .deliveries => deliveryIds
  | .nodes => nodeIds
  | .site => siteIds

/-- The field ids of a table's header (R162, R3). -/
def TableId.headerIds : TableId → List Nat
  | .sets => [1, 2, 3, 4, 5, 6, 7]
  | .tanks | .zones | .buses | .feeders | .accounts | .deliveries | .nodes | .site => [1, 2, 3]

/-- The number of records of a table (R161). -/
def TableId.capacity : TableId → Nat
  | .sets => Config.sets
  | .tanks => Config.tanks
  | .zones => Config.zones
  | .buses => Config.buses
  | .feeders => Config.feeders
  | .accounts => Config.accounts
  | .deliveries => Config.contexts
  | .nodes => Config.nodes
  | .site => 1

/-! ## The pairs of a record -/

/-- The pairs of a list field, entry by entry. -/
def entryPairs {α : Type} (xs : List α) (f : Nat → α → List (Nat × Nat)) : List (Nat × Nat) :=
  (xs.zipIdx 1).flatMap (fun e => f e.2 e.1)

def SetRec.pairs (r : SetRec) : List (Nat × Nat) :=
  pair 1 r.status.code ++ pair 2 r.tag ++ pair 3 r.node ++ pair 4 r.rated
  ++ entryPairs [r.curve.s0, r.curve.s1, r.curve.s2, r.curve.s3, r.curve.s4]
      (fun k v => pair (entryId 5 k) v)
  ++ pair 6 r.noLoad ++ pair 7 r.coolDown ++ optPair 8 r.tank ++ markPair 9 r.pinned
  ++ pair 10 r.op.code ++ markPair 11 r.silent ++ pair 12 r.silentCount ++ optPair 13 r.coolDeadline
  ++ pair 14 r.supplies ++ optPair 15 r.chBus ++ optPair 16 (r.chRole.map ChRole.code)
  ++ markPair 17 r.startedByCh ++ pair 18 r.standbyFor ++ pair 19 r.hireMin ++ pair 20 r.runMin
  ++ pair 21 r.residue ++ pair 22 r.recentRate ++ pair 23 r.lastEstimate ++ pair 24 r.energy
  ++ pair 25 r.lastAvgW ++ pair 26 r.periodEnergy ++ pair 27 r.periodBurnt ++ pair 28 r.totalBurnt
  ++ entryPairs r.draws (fun k d => pair (entryId 30 k) d.1 ++ pair (entryId 31 k) d.2)
  ++ pair 32 r.pooled

def TankRec.pairs (r : TankRec) : List (Nat × Nat) :=
  pair 1 SlotStatus.inUse.code ++ pair 2 r.tag ++ optPair 3 r.gauge ++ pair 4 r.capacity
  ++ pair 5 r.level ++ pair 6 r.shortfall ++ pair 7 r.overfill ++ [(8, wireInt r.variance)]
  ++ pair 9 r.lowThreshold ++ markPair 10 r.lowMark ++ markPair 11 r.filling
  ++ markPair 12 r.gaugeDeferred ++ markPair 13 r.gaugeSuspect ++ pair 14 r.endurance
  ++ pair 15 r.suppliedSets ++ pair 16 r.code.code ++ optPair 17 r.lastGauge ++ optPair 18 r.lastFill

def ZoneRec.pairs (r : ZoneRec) : List (Nat × Nat) :=
  pair 1 SlotStatus.inUse.code ++ pair 2 r.tag ++ pair 3 r.code1.code ++ pair 4 r.code3.code
  ++ markPair 5 r.showHold ++ pair 6 r.busCount

def BusRec.pairs (r : BusRec) : List (Nat × Nat) :=
  pair 1 SlotStatus.inUse.code ++ pair 2 r.zone ++ pair 3 r.panel
  ++ entryPairs r.inputs (fun k v => optPair (entryId 4 k) v)
  ++ markPair 5 r.noBreak ++ pair 6 r.required ++ optPair 7 r.standby ++ pair 8 r.state.code
  ++ optPair 9 r.supplying ++ optPair 10 r.incoming ++ optPair 11 (r.kind.map ChKind.code)
  ++ markPair 12 r.queued ++ optPair 13 r.warmUp ++ optPair 14 r.fuelWait ++ optPair 15 r.phase
  ++ optPair 16 r.deadSince ++ optPair 17 (r.requester.map Party.code) ++ pair 18 r.feederCount
  ++ optPair 19 (r.step.map OverlapStep.code)

def FeederRec.pairs (r : FeederRec) : List (Nat × Nat) :=
  pair 1 SlotStatus.inUse.code ++ pair 2 r.bus ++ pair 3 r.account ++ pair 4 r.meter
  ++ pair 5 r.rating ++ pair 6 r.refReading ++ pair 7 r.refTime ++ pair 8 r.lastDelta
  ++ pair 9 r.lastAvgW
  ++ entryPairs r.points (fun k p => pair (entryId 11 k) p.time ++ optPair (entryId 12 k) p.setBefore)
  ++ markPair 13 r.suspect ++ markPair 14 r.unread ++ markPair 15 r.estimated
  ++ markPair 16 r.boundary

/-- A statement's pairs, as COLLECT_STATEMENT returns them (R158). -/
def Statement.pairs (t : Statement) : List (Nat × Nat) :=
  pair 11 t.period ++ pair 12 t.startTime ++ pair 13 t.endTime ++ pair 14 t.energy ++ pair 15 t.fuel
  ++ pair 16 t.charge ++ markPair 17 t.collected ++ markPair 18 t.overwritten

def AccountRec.pairs (r : AccountRec) : List (Nat × Nat) :=
  pair 1 r.status.code ++ pair 2 r.tag ++ pair 3 r.code.code ++ pair 4 r.energyRate
  ++ pair 5 r.fuelRate ++ pair 6 r.periodWh ++ markPair 7 r.drawn ++ pair 8 r.periodFuel
  ++ pair 9 r.feederCount ++ (r.statement.map Statement.pairs).getD []

/-- The suspend causes as bits: 1 BY_REQUEST, 2 BY_CHANGEOVER (log 5). -/
def Ctx.causeBits (c : Ctx) : Nat := c.byRequest.toNat + 2 * c.byChangeover.toNat

/-- The pairs of the nominations. -/
def Ctx.nomPairs (c : Ctx) : List (Nat × Nat) :=
  entryPairs c.noms (fun k n =>
    pair (entryId 8 k) n.tank ++ optPair (entryId 9 k) n.target ++ pair (entryId 10 k) n.status.code
    ++ pair (entryId 11 k) n.delivered ++ optPair (entryId 12 k) n.startMeter)

def Ctx.pairs (c : Ctx) : List (Nat × Nat) :=
  pair 1 c.state.code ++ optPair 2 c.bowser ++ optPair 3 (c.opener.map Party.code)
  ++ optPair 4 c.docket ++ optPair 5 c.openTime ++ optPair 6 c.endTime ++ c.nomPairs
  ++ optPair 13 c.current ++ pair 14 c.causeBits ++ optPair 15 c.gathering ++ optPair 16 c.fill
  ++ optPair 17 c.fillLeft ++ optPair 18 c.settle ++ markPair 19 c.haltSent ++ pair 20 c.progress
  ++ pair 21 c.lastMeter ++ optPair 22 (c.outcome.map DocketOutcome.code)

/-- The docket COLLECT_DOCKET returns: docket number, bowser node, open time, end time, docket outcome and
every nomination (R136); the context number is the response's record number. -/
def Ctx.docketPairs (c : Ctx) : List (Nat × Nat) :=
  optPair 2 c.bowser ++ optPair 4 c.docket ++ optPair 5 c.openTime ++ optPair 6 c.endTime
  ++ c.nomPairs ++ optPair 22 (c.outcome.map DocketOutcome.code)

def NodeRec.pairs (r : NodeRec) : List (Nat × Nat) :=
  pair 1 SlotStatus.inUse.code ++ pair 2 r.role.code ++ pair 3 r.ring

/-- The site record: its own fields, the pass fields of R61 and the site clock (R177). -/
def State.sitePairs (s : State) : List (Nat × Nat) :=
  pair 1 s.site.scanInterval ++ pair 2 s.site.periodLength ++ pair 3 s.site.minuteCount
  ++ markPair 4 s.site.holdOption ++ pair 5 s.site.periodNumber ++ pair 6 s.site.periodStart
  ++ pair 7 s.site.closeState.code ++ pair 8 s.site.unsourced
  ++ pair 9 s.pass.state.code ++ optPair 10 s.pass.startTime ++ markPair 11 s.pass.closing
  ++ pair 12 s.pass.polls.length ++ pair 13 s.pass.outstanding ++ optPair 14 s.pass.scanDeadline
  ++ pair 15 s.clock

/-! ## Headers -/

/-- In-use count, free count and lowest free number of a table (R162). -/
def headerPairs (used cap : Nat) (lowest : Option Nat) : List (Nat × Nat) :=
  pair 1 used ++ pair 2 (cap - used) ++ pair 3 (lowest.getD 0)

/-- A context that is not IDLE counts as in use (R162). -/
def State.ctxUsed (s : State) : List Nat :=
  ([1, 2] : List Nat).filter (fun n => (s.ctx n).state ≠ .idle)

/-- The lowest-numbered IDLE context. -/
def State.idleCtx (s : State) : Option Nat :=
  ([1, 2] : List Nat).find? (fun n => (s.ctx n).state = .idle)

/-- The lowest endurance among tanks named as supplying tank by a RUNNING set, 1440 when none is (R3); a RUNNING
set without a supplying tank is left out (log 57). -/
def State.lowestEndurance (s : State) : Nat :=
  (s.sets.filterMap (fun e =>
    if e.2.op = .running then e.2.tank.map (fun t => (s.tankRec t).endurance) else none)).foldl
      min Config.enduranceMax

/-- The site totals of the set table's header (R3). -/
def State.setTotals (s : State) : List (Nat × Nat) :=
  pair 4 (s.sets.countP (fun e => e.2.op = .running))
  ++ pair 5 (s.sets.map (fun e => e.2.lastAvgW)).sum
  ++ pair 6 s.lowestEndurance ++ pair 7 s.site.unsourced

/-- The header record of a table (R162). -/
def State.header (s : State) : TableId → List (Nat × Nat)
  | .sets =>
    headerPairs s.sets.length Config.sets (s.sets.lowestFree Config.sets) ++ s.setTotals
  | .tanks => headerPairs s.tanks.length Config.tanks (s.tanks.lowestFree Config.tanks)
  | .zones => headerPairs s.zones.length Config.zones (s.zones.lowestFree Config.zones)
  | .buses => headerPairs s.buses.length Config.buses (s.buses.lowestFree Config.buses)
  | .feeders => headerPairs s.feeders.length Config.feeders (s.feeders.lowestFree Config.feeders)
  | .accounts =>
    headerPairs s.accounts.length Config.accounts (s.accounts.lowestFree Config.accounts)
  | .deliveries => headerPairs s.ctxUsed.length Config.contexts s.idleCtx
  | .nodes => headerPairs s.nodes.length Config.nodes (s.nodes.lowestFree Config.nodes)
  | .site => headerPairs 1 1 none

/-- The record of a number that is not FREE, as a LOOKUP returns it (R161, R163). -/
def State.recordPairs (s : State) (t : TableId) (n : Nat) : Option (List (Nat × Nat)) :=
  match t with
  | .sets => (s.set? n).map SetRec.pairs
  | .tanks => (s.tank? n).map TankRec.pairs
  | .zones => (s.zone? n).map ZoneRec.pairs
  | .buses => (s.bus? n).map BusRec.pairs
  | .feeders => (s.feeder? n).map FeederRec.pairs
  | .accounts => (s.account? n).map AccountRec.pairs
  | .deliveries => if n = 1 ∨ n = 2 then some (s.ctx n).pairs else none
  | .nodes => (s.node? n).map NodeRec.pairs
  | .site => if n = 1 then some s.sitePairs else none

end Sys2Proof.Machine
end

