-- ==== Sys2Proof/Machine/Frames.lean ====
section
/-! DEFINITION. The layouts on the two wires (10, "Formats"; R178, R187, R188, R192): the CRC, site line
frames, message payloads, request frames and response frames. -/

namespace Sys2Proof.Machine

/-! ## CRC -/

/-- One bit of the CRC: polynomial x^16 + x^12 + x^5 + 1, most significant bit first. -/
def crcBit (c : BitVec 16) : BitVec 16 :=
  if c.msb then (c <<< 1) ^^^ 0x1021#16 else c <<< 1

/-- One byte enters the CRC. -/
def crcByte (c : BitVec 16) (b : Byte) : BitVec 16 :=
  crcBit (crcBit (crcBit (crcBit (crcBit (crcBit (crcBit (crcBit
    (c ^^^ (b.zeroExtend 16 <<< 8)))))))))

/-- The CRC of bytes, from an initial value of all ones. -/
def crc (bs : List Byte) : BitVec 16 := bs.foldl crcByte 0xFFFF#16

/-! ## Site line frames -/

def FrameClass.code : FrameClass → Nat
  | .alert => 0 | .order => 1 | .reply => 2 | .query => 3

def FrameClass.ofCode : Nat → FrameClass
  | 0 => .alert | 1 => .order | 2 => .reply | _ => .query

/-- The bytes of a frame the part sends, from its class to its CRC; the part is the source. -/
def OutFrame.bytes (f : OutFrame) : List Byte :=
  let body : List Byte :=
    [BitVec.ofNat 8 (64 * f.cls.code + Config.ownAddress), BitVec.ofNat 8 f.dest,
      BitVec.ofNat 8 f.kind, BitVec.ofNat 8 f.payload.length] ++ f.payload
  body ++ beBytes 2 (crc body).toNat

/-- A frame on the line, with its destination: none when its length field exceeds 32 or its CRC does not
agree with the bytes received (R178). The destination is the low six bits of byte 1 (log 30). -/
def parseFrame (bs : List Byte) : Option (Nat × InFrame) :=
  match bs with
  | b0 :: b1 :: kind :: len :: rest =>
    let n := len.toNat
    let payload := rest.take n
    if n ≤ Config.payloadMax ∧ rest.length = n + 2
        ∧ beNat (rest.drop n) = (crc (b0 :: b1 :: kind :: len :: payload)).toNat then
      some (b1.toNat % 64,
        { cls := FrameClass.ofCode (b0.toNat / 64), source := b0.toNat % 64, kind := kind.toNat,
          payload := payload })
    else none
  | _ => none

/-! ## Message kinds -/

namespace Kind
def start : Nat := 32
def cool : Nat := 33
def stop : Nat := 34
def sync : Nat := 35
def askState : Nat := 36
def closeInput : Nat := 37
def openInput : Nat := 38
def tripInput : Nat := 39
def askInputs : Nat := 40
def readMeter : Nat := 41
def askLevel : Nat := 42
def fill : Nat := 43
def valveShut : Nat := 44
def valveOpen : Nat := 45
def haltFill : Nat := 46
def haltAllFills : Nat := 47
def outcome : Nat := 48
def state : Nat := 49
def syncOk : Nat := 50
def inputs : Nat := 51
def reading : Nat := 52
def level : Nat := 53
def bowserMeter : Nat := 54
def hoseDone : Nat := 55
def result : Nat := 56
end Kind

/-- The kind of reply that answers a frame of the part (09, "Message kinds", last column). -/
def replyKind (sent : Nat) : Nat :=
  if sent = Kind.askState then Kind.state
  else if sent = Kind.closeInput ∨ sent = Kind.openInput ∨ sent = Kind.tripInput
      ∨ sent = Kind.askInputs then Kind.inputs
  else if sent = Kind.readMeter then Kind.reading
  else if sent = Kind.askLevel then Kind.level
  else if sent = Kind.valveShut then Kind.valveShut
  else Kind.result

/-- The 4-byte values of a payload. -/
def words : List Byte → Option (List Nat)
  | [] => some []
  | a :: b :: c :: d :: t => (words t).map (beNat [a, b, c, d] :: ·)
  | [_] | [_, _] | [_, _, _] => none

/-- The 6-byte field pairs: id (2 bytes) and value (4 bytes). -/
def fieldPairs : List Byte → Option Fields
  | [] => some []
  | a :: b :: c :: d :: e :: f :: t => (fieldPairs t).map ((beNat [a, b], beNat [c, d, e, f]) :: ·)
  | [_] | [_, _] | [_, _, _] | [_, _, _, _] | [_, _, _, _, _] => none

/-- The positions INPUTS carries: one byte per input, 0 open, 1 closed (log 29). -/
def panelInputs (bs : List Byte) : Option (List Bool) :=
  if 1 ≤ bs.length ∧ bs.length ≤ Config.inputs then bs.mapM (fun b => markOf b.toNat) else none

/-- What an inbound frame says. -/
inductive Message where
  | request (k : ReqKind)
  | state (tag : Nat) (op : OpState)
  | syncOk
  | inputs (closed : List Bool)
  | level (ml : Nat)
  | reading (count : Nat)
  | bowserMeter (ml : Nat)
  | hoseDone (ml : Nat)
  | result (accepted : Bool) (meter : Option Nat)
  | valveShut (accepted : Bool) (meter : Option Nat)
  | unknown
  deriving DecidableEq, Repr

/-- A single 4-byte value. -/
def oneWord (bs : List Byte) (f : Nat → Message) : Message :=
  match words bs with
  | some [v] => f v
  | _ => .unknown

/-- STATE: set tag and op state. -/
def stateMessage (bs : List Byte) : Message :=
  match words bs with
  | some [tag, op] => ((OpState.ofCode op).map (Message.state tag)).getD .unknown
  | _ => .unknown

/-- RESULT and the VALVE_SHUT reply: acceptance, and the bowser meter where one is carried; `needs`: an
acceptance without a meter does not hold the kind's contents (log 29). -/
def acceptMessage (bs : List Byte) (needs : Bool) (f : Bool → Option Nat → Message) : Message :=
  match words bs with
  | some [acc] =>
    match markOf acc with
    | some true => if needs then .unknown else f true none
    | some false => f false none
    | none => .unknown
  | some [acc, meter] => ((markOf acc).map (fun b => f b (some meter))).getD .unknown
  | _ => .unknown

def levelMessage (bs : List Byte) : Message := oneWord bs .level

def inputsMessage (bs : List Byte) : Message := ((panelInputs bs).map Message.inputs).getD .unknown

def syncOkMessage (bs : List Byte) : Message := if bs.isEmpty then .syncOk else .unknown

/-- READING: a meter count from 0 to 16,777,215. -/
def readingMessage (bs : List Byte) : Message :=
  oneWord bs (fun v => if v < Config.meterModulus then .reading v else .unknown)

/-- An exchange opened by FILL. -/
def Exchange.isFill (e : Exchange) : Bool := decide (e.kind = Kind.fill)

/-- What a frame says, by its class and kind; a kind not listed for its class, or a payload that does not
hold the kind's contents, is a kind the part does not know (R187). -/
def InFrame.message (f : InFrame) (closes : Option Exchange) : Message :=
  match f.cls with
  | .order => .unknown
  | .query => ((ReqKind.ofCode f.kind).map Message.request).getD .unknown
  | .alert =>
    if f.kind = Kind.state then stateMessage f.payload
    else if f.kind = Kind.syncOk then syncOkMessage f.payload
    else if f.kind = Kind.inputs then inputsMessage f.payload
    else if f.kind = Kind.level then levelMessage f.payload
    else if f.kind = Kind.bowserMeter then oneWord f.payload .bowserMeter
    else if f.kind = Kind.hoseDone then oneWord f.payload .hoseDone
    else .unknown
  | .reply =>
    if f.kind = Kind.state then stateMessage f.payload
    else if f.kind = Kind.syncOk then syncOkMessage f.payload
    else if f.kind = Kind.inputs then inputsMessage f.payload
    else if f.kind = Kind.level then levelMessage f.payload
    else if f.kind = Kind.reading then readingMessage f.payload
    else if f.kind = Kind.result then
      acceptMessage f.payload (closes.any Exchange.isFill) .result
    else if f.kind = Kind.valveShut then acceptMessage f.payload true .valveShut
    else .unknown

/-! ## Requests and responses -/

/-- A request frame after the WRITE code: none when its framing fails (R192). -/
def parseRequest (bs : List Byte) (extraBits : Nat) : Option Request :=
  match bs with
  | l1 :: l0 :: kind :: ring :: table :: sel :: i3 :: i2 :: i1 :: i0 :: rest =>
    let len := beNat [l1, l0]
    if extraBits = 0 ∧ len = rest.length + 8 ∧ len ≤ 1022 then
      (fieldPairs rest).map (fun fs =>
        { kind := kind.toNat, ring := ring.toNat, table := table.toNat, selector := sel.toNat,
          index := beNat [i3, i2, i1, i0], fields := fs })
    else none
  | _ => none

/-- The request a QUERY carries: its kind byte, and a payload of claimed ring, table, selector and index
followed by whole field pairs (R187; 10, "Formats"). -/
def InFrame.request (f : InFrame) : Option Request :=
  match f.payload with
  | ring :: table :: sel :: i3 :: i2 :: i1 :: i0 :: rest =>
    (fieldPairs rest).map (fun fs =>
      { kind := f.kind, ring := ring.toNat, table := table.toNat, selector := sel.toNat,
        index := beNat [i3, i2, i1, i0], fields := fs })
  | _ => none

def pairBytes (p : Nat × Nat) : List Byte := beBytes 2 p.1 ++ beBytes 4 p.2

/-- The notice record of a TAKE_NOTICE response, with the number of notices still queued. -/
def noticeBytes (n : Notice) (still : Nat) : List Byte :=
  beBytes 1 n.kind.code ++ beBytes 1 n.table.code ++ beBytes 2 n.index ++ beBytes 1 n.value.isSome.toNat
  ++ beBytes 4 (wire32 (n.value.getD 0)) ++ beBytes 4 n.time ++ beBytes 1 still

/-- The response frame READ clocks out, length field first. -/
def Response.bytes (r : Response) : List Byte :=
  let body := beBytes 1 r.answer.code ++ beBytes 1 r.flags ++ beBytes 4 r.record
    ++ (match r.notice with
        | some (n, still) => noticeBytes n still
        | none => r.fields.flatMap pairBytes)
  beBytes 2 body.length ++ body

/-- The OUTCOME payload: outcome code, flags, record number, and as many pairs as fit in 32 bytes
(R188). -/
def Response.outcomePayload (r : Response) : List Byte :=
  beBytes 1 r.answer.code ++ beBytes 1 r.flags ++ beBytes 4 r.record
    ++ (r.fields.take ((Config.payloadMax - 6) / 6)).flatMap pairBytes

end Sys2Proof.Machine
end

