-- ==== Sys2Proof/Machine/SiteLine.lean ====
section
/-! DEFINITION. The Site Line Controller (09): the outbound queue and its backlog, arbitration, exchanges and
the inbound slots. What an outcome does at the offering block stands in Outcomes.lean. -/

namespace Sys2Proof.Machine

/-! ## The outbound queue -/

def Line.generalUsed (l : Line) : Nat := l.queue.countP (fun f => !f.kept)
def Line.keptUsed (l : Line) : Nat := l.queue.countP (fun f => f.kept)

/-- Put a frame at the end of its class (R180). -/
def queueBack (q : List OutFrame) (f : OutFrame) : List OutFrame :=
  q.takeWhile (fun g => decide (g.cls.code ≤ f.cls.code)) ++ f ::
    q.dropWhile (fun g => decide (g.cls.code ≤ f.cls.code))

/-- Put a boundary read at the head of its class (R180). -/
def queueFront (q : List OutFrame) (f : OutFrame) : List OutFrame :=
  q.takeWhile (fun g => decide (g.cls.code < f.cls.code)) ++ f ::
    q.dropWhile (fun g => decide (g.cls.code < f.cls.code))

/-- Drop the newest REPLY of a backlog, if it holds one. -/
def dropNewestReply (b : List OutFrame) : Option (List OutFrame) :=
  if b.any (fun f => f.cls = .reply) then
    some (b.reverse.eraseP (fun f => f.cls = .reply)).reverse
  else none

/-- An ORDER or REPLY that finds no entry waits at the tail of the backlog (R181). A full backlog gives up
its newest REPLY to an ORDER, and drops an offered REPLY; full of ORDERs, the frame an ORDER costs it is a
free value (log 12). -/
def Line.toBacklog (f : OutFrame) (l : Line) : Line :=
  if l.backlog.length < Config.backlog then { l with backlog := l.backlog ++ [f] }
  else match f.cls with
    | .order =>
      match dropNewestReply l.backlog with
      | some b => { l with backlog := b ++ [f] }
      | none =>
        let lost := Config.backlogVictim f.id % (Config.backlog + 1)
        { l with backlog := (l.backlog ++ [f]).eraseIdx lost }
    | .alert | .reply | .query => l

/-- Offer an ORDER: a general entry, else a kept one, else the backlog (R180, R181). -/
def Line.offerOrder (f : OutFrame) (l : Line) : Line :=
  if l.generalUsed < Config.generalEntries then
    { l with queue := queueBack l.queue { f with kept := false } }
  else if l.keptUsed < Config.keptEntries then
    { l with queue := queueBack l.queue { f with kept := true } }
  else l.toBacklog f

/-- Offer a REPLY: a general entry, else the backlog. -/
def Line.offerReply (f : OutFrame) (l : Line) : Line :=
  if l.generalUsed < Config.generalEntries then { l with queue := queueBack l.queue f }
  else l.toBacklog f

/-- A general entry is free, as a QUERY needs. -/
def Line.roomForQuery (l : Line) : Bool := decide (l.generalUsed < Config.generalEntries)

/-- When an entry frees, the oldest frame of the backlog it may take moves in: an ORDER into any entry, a
REPLY only into a general one (R181). -/
def Line.refill (kept : Bool) (l : Line) : Line :=
  match l.backlog.find? (fun f => !kept || decide (f.cls = .order)) with
  | none => l
  | some f =>
    { l with
      queue := queueBack l.queue { f with kept := kept }
      backlog := l.backlog.erase f }

/-- A frame leaves the queue and its entry frees (R180). -/
def Line.leave (f : OutFrame) (l : Line) : Line :=
  Line.refill f.kept { l with queue := l.queue.filter (fun g => g.id ≠ f.id) }

/-- An exchange is open with a node. -/
def Line.exchangeWith (l : Line) (node : Nat) : Option Exchange :=
  l.exchanges.find? (fun e => e.dest = node)

def Line.closeExchange (node : Nat) (l : Line) : Line :=
  { l with exchanges := l.exchanges.filter (fun e => e.dest ≠ node) }

/-- An acknowledged ORDER or QUERY opens an exchange (R184). -/
def Line.openExchange (f : OutFrame) (l : Line) : Line :=
  match f.cls with
  | .order | .query =>
    { l with
      exchanges := l.exchanges ++ [{ id := f.id, dest := f.dest, kind := f.kind, purpose := f.purpose }] }
  | .alert | .reply => l

/-- The first frame in queue order that may be sent: an all-call, or one whose node has no exchange open
(R182). -/
def Line.nextToSend (l : Line) : Option OutFrame :=
  l.queue.find? (fun f => decide (f.dest = 0) || (l.exchangeWith f.dest).isNone)

/-- The line is idle for the part: no hold is running in either direction. -/
def Line.idle (l : Line) : Bool := l.rxHold.isNone && l.txHold.isNone

/-- The part wins the line when no node drives a lower class, nor its own class from a lower address
(R179). -/
def winsLine (cls : FrameClass) (contenders : List (Nat × Nat)) : Bool :=
  contenders.all (fun c =>
    decide (cls.code < c.1 ∨ (cls.code = c.1 ∧ Config.ownAddress < c.2)))

/-! ## Offering frames for the blocks -/

/-- Offer an ORDER to a node; answers the frame's id. -/
def offerOrder (dest kind : Nat) (payload : List Byte) (purpose : Purpose) (s : State) : State × Nat :=
  (s.bumpId.onLine (Line.offerOrder
    { id := s.nextId, cls := .order, dest, kind, payload, purpose }), s.nextId)

/-- Send an ORDER whose id the sender does not keep. -/
def sendOrder (dest kind : Nat) (payload : List Byte) (purpose : Purpose) (s : State) : State :=
  (offerOrder dest kind payload purpose s).1

/-- Offer a QUERY; none when no general entry is free, which is the no-answer outcome (R181). `front`: a
boundary read, at the head of the class. -/
def offerQuery (dest kind : Nat) (purpose : Purpose) (front : Bool) (s : State) : State × Option Nat :=
  if s.line.roomForQuery then
    let f : OutFrame := { id := s.nextId, cls := .query, dest, kind, payload := [], purpose }
    (s.bumpId.onLine (fun l =>
      { l with queue := if front then queueFront l.queue f else queueBack l.queue f }), some s.nextId)
  else (s, none)

/-- Offer an OUTCOME to the node that asked (R188). -/
def offerOutcome (dest : Nat) (r : Response) (s : State) : State :=
  s.bumpId.onLine (Line.offerReply
    { id := s.nextId, cls := .reply, dest, kind := Kind.outcome, payload := r.outcomePayload,
      purpose := .nothing })

/-! ## Receiving -/

/-- The free inbound slot an acknowledged frame takes (R186): the lowest-numbered (log 83). -/
def Line.freeSlot (l : Line) : Option Nat :=
  (List.range' 1 Config.inboundSlots).find? (fun n => l.slots.all (fun t => t.number ≠ n))

/-- The exchange a frame closes when it is acknowledged: the one open with its source, when it is a REPLY
(R184, R185). -/
def Line.closedBy (f : InFrame) (l : Line) : Option Exchange :=
  match f.cls with
  | .reply => l.exchangeWith f.source
  | .alert | .order | .query => none

/-- Acknowledge a frame into slot `n`, closing the exchange it answers. -/
def Line.admitTo (n : Nat) (f : InFrame) (l : Line) : Line :=
  let closes := l.closedBy f
  let l' := if closes.isSome then l.closeExchange f.source else l
  { l' with slots := l'.slots ++ [{ number := n, frame := f, closes }], answered := .ack }

/-- A frame addressed to the part that passed the checks: ACK into a free slot, or HOLD (R186). -/
def Line.receive (f : InFrame) (l : Line) : Line :=
  match l.freeSlot with
  | some n => l.admitTo n f
  | none => { l with rxHold := some f, answered := .hold }

/-- Free slot `n`; a frame on hold is acknowledged into it (R186, R187), before the block acts on the frame that left it
(log 83). -/
def Line.freeAt (n : Nat) (l : Line) : Line :=
  let l' := { l with slots := l.slots.filter (fun t => t.number ≠ n) }
  match l'.rxHold with
  | none => l'
  | some f =>
    match l'.freeSlot with
    | some k => { l'.admitTo k f with rxHold := none }
    | none => l'

/-- The slot of number `n`, when its frame may be dispatched: no frame of its source was acknowledged before
it and still waits (R187). -/
def Line.dispatchable (n : Nat) (l : Line) : Option Slot :=
  match l.slots.find? (fun t => t.number = n) with
  | none => none
  | some t =>
    if (l.slots.find? (fun u => u.frame.source = t.frame.source)) = some t then some t else none

/-! ## Commands of the line itself -/

/-- The part has nothing to do with events of the line or of its timers while RESET is asserted (R190,
R199). -/
def unlessHeld (f : State → State) (s : State) : State := if s.resetHeld then s else f s

/-- FRAME_RECEIVE on a line not held in reset: a frame not addressed to the part, one that fails its
checks, and one that comes while a hold keeps the line busy (log 31), finds the slot empty. -/
def receiveFrame (bytes : List Byte) (s : State) : State :=
  s.onLine (fun l =>
    if !l.idle then l
    else match parseFrame bytes with
      | some (dest, f) =>
        if dest = Config.ownAddress then l.receive f else { l with answered := .nothing }
      | none => { l with answered := .nothing })

/-- FRAME_RECEIVE (R178, R186); while RESET is asserted the acknowledgement slot stays empty (R190). -/
def execFrameReceive (bytes : List Byte) (s : State) : Host.Outcome State Fault Refusal :=
  .next (if s.resetHeld then s.onLine (fun l => { l with answered := .nothing })
    else receiveFrame bytes s)

/-- The hold ends without a free slot: REFUSE, and the frame is discarded (R186). -/
def endReceiveHold (s : State) : State :=
  s.onLine (fun l =>
    if l.rxHold.isSome then { l with rxHold := none, answered := .refuse } else l)

/-- RECEIVE_HOLD_EXPIRY (R186). -/
def execReceiveHoldExpiry (s : State) : Host.Outcome State Fault Refusal :=
  .next (unlessHeld endReceiveHold s)

end Sys2Proof.Machine
end

