-- ==== Sys2Proof/Machine/Fuel.lean ====
section
/-! DEFINITION. The Fuel Estimator's computations (02): the burn estimate, endurance, the low mark and the
projection. Gauge readings and fuel credits, which are handed on to the Transfer Controller, stand in
FuelLevel.lean. -/

namespace Sys2Proof.Machine

/-- The states in which a set burns idle fuel and counts run minutes (01, "Operating state"). -/
def OpState.burns : OpState → Bool
  | .starting | .running | .cooling => true
  | .stopped | .fault => false

/-! ## The curve (R29) -/

/-- The curve point at load fraction 250 k. -/
def Curve.point (c : Curve) : Nat → Nat
  | 0 => c.s0 | 1 => c.s1 | 2 => c.s2 | 3 => c.s3 | _ => c.s4

/-- SFC at load fraction `l` in permille: s4 from 1000 on, else interpolated with the quotient truncated
toward zero (R29). -/
def Curve.sfc (c : Curve) (l : Nat) : Nat :=
  if 1000 ≤ l then c.s4
  else
    let k := l / 250
    ((c.point k : Int) + Int.tdiv (((c.point (k + 1) : Int) - c.point k) * ((l : Int) - 250 * k)) 250).toNat

/-! ## The burn estimate (R28 to R32) -/

/-- The figures of one set's estimate. -/
structure Burn where
  power : Nat
  load : Nat
  loadBurn : Nat
  idleBurn : Nat
  whole : Nat
  residue : Nat
  rate : Nat
  deriving DecidableEq, Repr

/-- A rate in the range of R31; one above it is a free value of 32 bits (log 49). -/
def inRateRange (rate : Nat) : Nat :=
  if rate ≤ Config.max32 then rate else (Config.rateBeyond rate).toNat

/-- The smoothed rate moves a quarter of its distance, truncated toward zero (R31). -/
def smoothRate (old inst : Nat) : Nat :=
  inRateRange ((old : Int) + Int.tdiv ((inst : Int) - old) 4).toNat

/-- Steps 1 to 7 of the burn estimate over `dt` seconds, above 0. -/
def SetRec.burn (r : SetRec) (dt : Nat) : Burn :=
  let power := r.energy * 3600 / dt
  let load := power / r.rated
  let loadBurn := r.curve.sfc (min load 1250) * r.energy
  let idleBurn := if r.op.burns then r.noLoad * dt * 5 / 18 else 0
  let total := r.residue + loadBurn + idleBurn
  { power, load, loadBurn, idleBurn
    whole := total / 1000
    residue := total % 1000
    rate := smoothRate r.recentRate ((loadBurn + idleBurn) * 3600 / (dt * 1000)) }

/-- Take burnt fuel from a tank: the level saturates at 0, the part that could not be taken goes to the
shortfall (R32). -/
def TankRec.takeFuel (ml : Nat) (r : TankRec) : TankRec :=
  { r with level := r.level - ml, shortfall := satAdd32 r.shortfall (ml - r.level) }

/-- TANK_DRY when a level that was above 0 has become 0 (R32, R36). -/
def raiseIfDry (tank before : Nat) (s : State) : State :=
  if 0 < before ∧ (s.tankRec tank).level = 0 then raise .tankDry .tanks tank none s else s

/-- Take burnt fuel from tank `n`. -/
def burnFromTank (n ml : Nat) (s : State) : State :=
  raiseIfDry n (s.tankRec n).level (s.updTank n (TankRec.takeFuel ml))

/-- Take burnt fuel from a set's supplying tank, if it names one. -/
def burnFromSupply (tank : Option Nat) (ml : Nat) (s : State) : State :=
  match tank with
  | some t => burnFromTank t ml s
  | none => s

/-- What an estimate writes to the set record (R28, R30 to R32). -/
def SetRec.afterBurn (b : Burn) (now : Nat) (r : SetRec) : SetRec :=
  { r with
    lastAvgW := b.power
    residue := b.residue
    recentRate := b.rate
    periodBurnt := r.periodBurnt + b.whole
    totalBurnt := r.totalBurnt + b.whole
    energy := 0
    lastEstimate := now }

/-- The estimate of one set at a pass end; deferred when no second has passed since the last (R27). -/
def estimateSet (n : Nat) (s : State) : State :=
  match s.set? n with
  | none => s
  | some r =>
    let dt := s.clock - r.lastEstimate
    if dt = 0 then s
    else
      let b := r.burn dt
      let s1 := if 1250 < b.load then raise .overload .sets n (some b.load) s else s
      burnFromSupply r.tank b.whole (s1.updSet n (SetRec.afterBurn b s.clock))

/-! ## Endurance and the low mark (R39 to R41) -/

/-- R of a tank: the recent rates of its sets that burn (R39). -/
def State.tankRate (s : State) (n : Nat) : Nat :=
  (s.sets.map (fun e =>
    if e.2.tank = some n ∧ e.2.op.burns then e.2.recentRate else 0)).sum

/-- level × 60 / R, floor, clamped to 1440; 1440 when R is 0 (R39). -/
def enduranceOf (level rate : Nat) : Nat :=
  if rate = 0 then Config.enduranceMax else min (level * 60 / rate) Config.enduranceMax

/-- Evaluate the low mark against the endurance just computed (R41). -/
def evalLowMark (n : Nat) (s : State) : State :=
  match s.tank? n with
  | none => s
  | some r =>
    if !r.lowMark && decide (r.endurance < r.lowThreshold) then
      raise .lowFuel .tanks n (some r.endurance) (s.updTank n (fun t => { t with lowMark := true }))
    else if r.lowMark && decide (r.lowThreshold + 30 ≤ r.endurance) then
      s.updTank n (fun t => { t with lowMark := false })
    else s

/-- Recompute a tank's endurance and then evaluate its low mark (R40). -/
def recomputeTank (n : Nat) (s : State) : State :=
  evalLowMark n (s.updTank n (fun t => { t with endurance := enduranceOf t.level (s.tankRate n) }))

/-- Recompute the supplying tank of a set, if it has one (R12). -/
def recomputeSupply (tank : Option Nat) (s : State) : State :=
  match tank with
  | some t => recomputeTank t s
  | none => s

/-- The Fuel Estimator's share of a pass end: every set estimated, then every tank recomputed, each in ascending
number (R27; log 56). -/
def estimateAll (s : State) : State :=
  let s1 := forEach s.sets.nums estimateSet s
  forEach s1.tanks.nums recomputeTank s1

/-! ## The projection (R42) -/

/-- The load of a bus: the last average W of its feeders. -/
def State.busLoad (s : State) (bus : Nat) : Nat :=
  (s.feeders.map (fun e => if e.2.bus = bus then e.2.lastAvgW else 0)).sum

/-- The projected power of set `i` with the load of bus `b` added. -/
def State.projectedPower (s : State) (i b : Nat) : Nat := (s.setRec i).lastAvgW + s.busLoad b

/-- L′: the projected load of a set for a bus, in permille of its rating. -/
def State.projectedLoad (s : State) (i b : Nat) : Nat := s.projectedPower i b / (s.setRec i).rated

/-- r′: the projected rate of set `i` for bus `b`. -/
def State.projectedRate (s : State) (i b : Nat) : Nat :=
  (s.setRec i).noLoad
    + (s.setRec i).curve.sfc (s.projectedLoad i b) * s.projectedPower i b / 1000

/-- The projected endurance of set `i` for bus `b`: 0 when the set has no supplying tank (R42). -/
def State.projectedEndurance (s : State) (i b : Nat) : Nat :=
  let r := s.setRec i
  match r.tank with
  | none => 0
  | some t =>
    let others := s.tankRate t - (if r.op.burns then r.recentRate else 0)
    enduranceOf (s.tankRec t).level (others + s.projectedRate i b)

end Sys2Proof.Machine
end

