-- ==== Sys2Proof/Machine/Switching.lean ====
section
/-! DEFINITION. The start of switching at the Delivery Controller (R104, R130, R131): the share of the
Delivery Controller that the Transfer Controller calls when a changeover leaves PENDING. -/

namespace Sys2Proof.Machine

/-- A bus is switching in these states (R104). -/
def BusState.switching : BusState → Bool
  | .syncing | .closingIn | .overlap | .opening | .dead => true
  | .steady | .lost | .pending | .uncertain => false

/-- A bus is in a changeover in every state other than STEADY, LOST and UNCERTAIN (03). -/
def BusState.inChangeover : BusState → Bool
  | .pending | .syncing | .closingIn | .overlap | .opening | .dead => true
  | .steady | .lost | .uncertain => false

/-- A set takes part in a switching changeover. -/
def State.setSwitching (s : State) (r : SetRec) : Bool :=
  r.chBus.any (fun b => (s.busRec b).state.switching)

/-- A tank is touched by switching when it supplies a set that takes part in a switching changeover
(R131). -/
def State.tankTouched (s : State) (tank : Nat) : Bool :=
  s.sets.any (fun e => decide (e.2.tank = some tank) && s.setSwitching e.2)

/-- States in which the changeover cause of a context is evaluated (R131). -/
def CtxState.dealing : CtxState → Bool
  | .dispensing | .suspending | .suspended | .stalled => true
  | .idle | .gathering | .done => false

/-- The active states of a context (06). -/
def CtxState.active : CtxState → Bool
  | .gathering | .dispensing | .suspending | .suspended | .stalled => true
  | .idle | .done => false

/-- The current nomination. -/
def Ctx.currentNom (c : Ctx) : Option Nomination := c.current.bind (fun k => c.noms[k - 1]?)

/-- Change the current nomination. -/
def Ctx.updCurrent (f : Nomination → Nomination) (c : Ctx) : Ctx :=
  match c.current with
  | some k => { c with noms := c.noms.modify (k - 1) f }
  | none => c

/-- The current nomination's tank. -/
def Ctx.currentTank (c : Ctx) : Option Nat := c.currentNom.map Nomination.tank

/-- Send an order without payload to a context's bowser. -/
def orderBowser (ctx kind : Nat) (purpose : Purpose) (s : State) : State :=
  sendOrder ((s.ctx ctx).bowser.getD 0) kind [] purpose s

/-- Leaving DISPENSING pauses the fill deadline: what is left of it is kept (R130). -/
def Ctx.pauseFill (now : Nat) (c : Ctx) : Ctx :=
  match c.fill with
  | some d => { c with fill := none, fillLeft := some (d - now) }
  | none => c

/-- DISPENSING to SUSPENDING: VALVE_SHUT sent, settle deadline set, fill deadline paused (R128, R131). -/
def suspendFlow (n : Nat) (s : State) : State :=
  let s1 := s.updCtx n (fun c =>
    { (c.pauseFill s.clock) with
      state := .suspending
      settle := some (s.clock + Config.settleTime) })
  orderBowser n Kind.valveShut (.valveShut n (s.ctx n).serial) s1

/-- BY_CHANGEOVER is placed on a context; a DISPENSING one is suspended (R131). -/
def placeChangeover (n : Nat) (s : State) : State :=
  let s1 := s.updCtx n (fun c => { c with byChangeover := true })
  if (s.ctx n).state = .dispensing then suspendFlow n s1 else s1

/-- Context `n` deals with a tank that supplies one of the sets. -/
def State.ctxTouches (s : State) (n : Nat) (sets : List Nat) : Bool :=
  (s.ctx n).state.dealing &&
    sets.any (fun i => decide ((s.setRec i).tank ≠ none ∧ (s.setRec i).tank = (s.ctx n).currentTank))

/-- "Switching begins", naming sets: each context whose current tank supplies one of them, context 1 first
(R131; the order, log 74). -/
def switchingBegins (sets : List Nat) (s : State) : State :=
  forEach [1, 2] (fun n t => if t.ctxTouches n sets then placeChangeover n t else t) s

end Sys2Proof.Machine
end

