-- ==== Sys2Proof/Machine/Pending.lean ====
section
/-! DEFINITION. Orders to switch panels and the evaluation of PENDING changeovers (05, R89, R91, R92). -/

namespace Sys2Proof.Machine

/-- The panel input of a set: its position in the bus's inputs list, from 1. -/
def BusRec.position (r : BusRec) (set : Nat) : Option Nat :=
  (r.inputs.findIdx? (fun x => x = some set)).map (· + 1)

/-- Send an order for one input to a bus's panel, its reply awaited (R92). -/
def orderPanel (bus kind set : Nat) (s : State) : State :=
  let r := s.busRec bus
  let (s1, id) := offerOrder r.panel kind (beBytes 4 ((r.position set).getD 0)) (.panel bus) s
  s1.updBus bus (fun b => { b with awaited := some id })

/-- Send OPEN_INPUT for a set's input, its reply not awaited (R98, R99). -/
def openUnawaited (bus set : Nat) (s : State) : State :=
  let r := s.busRec bus
  sendOrder r.panel Kind.openInput (beBytes 4 ((r.position set).getD 0)) .nothing s

/-- Send SYNC to the incoming set of a bus (R91). -/
def orderSync (bus set : Nat) (s : State) : State :=
  let r := s.setRec set
  let (s1, id) := offerOrder r.node Kind.sync [] (.sync bus set r.serial) s
  s1.updBus bus (fun b => { b with awaited := some id })

/-- Enter a state of the changeover with its phase deadline; both PENDING deadlines are dropped (R91). -/
def enterPhase (bus : Nat) (st : BusState) (seconds : Nat) (s : State) : State :=
  s.updBus bus (fun b =>
    { b with state := st, warmUp := none, fuelWait := none, phase := some (s.clock + seconds) })

/-- DEAD with CLOSE_INPUT for the incoming set (R91, R97, R103). -/
def enterDead (bus set : Nat) (s : State) : State :=
  orderPanel bus Kind.closeInput set (enterPhase bus .dead Config.deadPhase s)

/-- A changeover moves on from PENDING: one order and a new state, then the start of switching is handed to
the Delivery Controller (R91, R104). -/
def leavePending (bus : Nat) (s : State) : State :=
  let r := s.busRec bus
  let inc := r.incoming.getD 0
  let s1 := match r.kind, r.supplying with
    | some .closed, _ => orderSync bus inc (enterPhase bus .syncing Config.syncPhase s)
    | some .opened, some o =>
      orderPanel bus Kind.openInput o (enterPhase bus .opening Config.openPhase s)
    | some .opened, none => enterDead bus inc s
    | some .emergency, _ => enterDead bus inc s
    | none, _ => s
  switchingBegins (inc :: r.supplying.toList) s1

/-- The condition on which a PENDING changeover moves on (R89). -/
def State.movesOn (s : State) (bus : Nat) : Bool :=
  let r := s.busRec bus
  match r.incoming with
  | none => false
  | some i =>
    decide (r.state = .pending ∧ (s.setRec i).op = .running)
      && (decide (r.kind = some .emergency) || decide (r.required ≤ s.projectedEndurance i bus))

/-- Evaluate a bus: a PENDING changeover whose condition holds moves on (R89). -/
def evaluatePending (bus : Nat) (s : State) : State :=
  if s.movesOn bus then leavePending bus s else s

/-- Evaluate every PENDING bus whose incoming set names a tank, in ascending number (R89: fuel credit, gauge
reconciliation, dip; the order, log 70). -/
def evaluateForTank (tank : Nat) (s : State) : State :=
  forEach s.buses.nums (fun b t =>
    if (t.busRec b).incoming.any (fun i => (t.setRec i).tank = some tank) then evaluatePending b t
    else t) s

/-- Evaluate every PENDING bus, in ascending number (R89: pass end). -/
def evaluateAllPending (s : State) : State := forEach s.buses.nums evaluatePending s

end Sys2Proof.Machine
end

