-- ==== Sys2Proof/Machine/FuelLevel.lean ====
section
/-! DEFINITION. The tank level: gauge readings, dips and fuel credits, with what they hand on (02, R33 to
R38). -/

namespace Sys2Proof.Machine

/-- A gauge reconciliation of a tank, field by field in the order of R36. -/
def TankRec.reconciled (reading now : Nat) (r : TankRec) : TankRec :=
  { r with
    variance := satVariance (r.variance + ((reading : Int) - r.level))
    level := min reading r.capacity
    gaugeSuspect := decide (r.capacity < reading)
    shortfall := 0
    lastGauge := some now
    gaugeDeferred := false }

/-- Reconcile tank `n` against a reading: TANK_DRY, endurance, low mark, and the hand-off to the PENDING
changeovers (R36). -/
def reconcileTank (n reading : Nat) (s : State) : State :=
  let s1 := raiseIfDry n (s.tankRec n).level (s.updTank n (TankRec.reconciled reading s.clock))
  evaluateForTank n (recomputeTank n s1)

/-- A LEVEL for tank `n`: deferred while the tank is filling, else reconciled (R35). -/
def gaugeReading (n reading : Nat) (s : State) : State :=
  if (s.tankRec n).filling then s.updTank n (fun t => { t with gaugeDeferred := true })
  else reconcileTank n reading s

/-- A fuel credit's own fields: level, overfill, variance, last fill time, and the filling mark cleared
(R33). -/
def TankRec.credited (ml now : Nat) (r : TankRec) : TankRec :=
  { r with
    level := min (r.level + ml) r.capacity
    overfill := satAdd32 r.overfill (r.level + ml - r.capacity)
    variance := 0
    lastFill := some now
    filling := false }

/-- ASK_LEVEL to a tank's gauge node, if it has one; nothing is done when it cannot be queued (R37). -/
def askLevel (n : Nat) (s : State) : State :=
  match (s.tankRec n).gauge with
  | some g => (offerQuery g Kind.askLevel (.askLevel n (s.tankRec n).serial) false s).1
  | none => s

/-- A fuel credit: level, marks, endurance and low mark, the fill completion handed to the Transfer
Controller, then ASK_LEVEL (R33). -/
def creditFuel (n ml : Nat) (s : State) : State :=
  let s1 := s.updTank n (fun t => { t.credited ml s.clock with gaugeDeferred := false })
  askLevel n (evaluateForTank n (recomputeTank n s1))

end Sys2Proof.Machine
end

