-- ==== Sys2Proof/Machine/Delivery.lean ====
section
/-! DEFINITION. The Delivery Controller (06): taking up nominations, filling, stalls, suspension and
resumption, and the end of a delivery. -/

namespace Sys2Proof.Machine

/-! ## Entering DONE (R135) -/

/-- The fields of a context that enters DONE: the docket is kept, everything else of the delivery goes. -/
def Ctx.finished (o : DocketOutcome) (now : Nat) (c : Ctx) : Ctx :=
  { c with
    state := .done
    endTime := some now
    outcome := some o
    current := none
    byRequest := false
    byChangeover := false
    gathering := none
    fill := none
    fillLeft := none
    settle := none
    haltSent := false }

/-- Enter DONE and raise DELIVERY_DONE (R135). -/
def enterDone (n : Nat) (o : DocketOutcome) (s : State) : State :=
  raise .deliveryDone .deliveries n (some o.code) (s.updCtx n (Ctx.finished o s.clock))

/-! ## Orders to the bowser -/

/-- Send FILL for the current nomination, carrying the tank's tag and the millilitres to fill (R120, R126;
09, "Message kinds"). -/
def orderFill (n ml : Nat) (s : State) : State :=
  let c := s.ctx n
  let tag := (s.tankRec (c.currentTank.getD 0)).tag
  sendOrder (c.bowser.getD 0) Kind.fill (beBytes 4 tag ++ beBytes 4 ml)
    (.fill n c.serial (c.current.getD 0)) s

/-- The fill is halted: HALT_FILL sent with its reply not awaited, the halt sent mark set, STALLED, and
DELIVERY_STALLED raised with the progress count (R121, R124, R126). -/
def stall (n : Nat) (s : State) : State :=
  let s1 := orderBowser n Kind.haltFill .nothing s
  let s2 := s1.updCtx n (fun c =>
    { c with state := .stalled, haltSent := true, fill := none, fillLeft := none, settle := none })
  raise .deliveryStalled .deliveries n (some (s.ctx n).progress) s2

/-! ## Taking up a nomination (R120) -/

/-- The target of a nomination being taken up: as given, or 95 per cent of the capacity less the level. -/
def fillTarget (nom : Nomination) (t : TankRec) : Nat :=
  nom.target.getD (t.capacity * 95 / 100 - t.level)

/-- The taken-up nomination is acted on by the context's state and causes (R120). -/
def actOnTakenUp (n target : Nat) (s : State) : State :=
  let c := s.ctx n
  let flow := decide (c.state = .dispensing ∨ c.state = .stalled)
  if flow && !c.byRequest && !c.byChangeover then
    orderFill n target (s.updCtx n (fun c => { c with state := .dispensing }))
  else if flow then s.updCtx n (fun c => { c with state := .suspended, fillLeft := none })
  else s

/-- Nomination number `k` becomes current, with its target and its changeover cause (R120, R131). -/
def makeCurrent (n k : Nat) (nom : Nomination) (s : State) : State :=
  let target := fillTarget nom (s.tankRec nom.tank)
  let s1 := s.updCtx n (fun c =>
    { c with
      current := some k
      noms := c.noms.modify (k - 1) (fun m => { m with target := some target })
      byChangeover := s.tankTouched nom.tank })
  actOnTakenUp n target s1

/-- A computed target of 0 or less (R120). -/
def Nomination.nothingToFill (nom : Nomination) (t : TankRec) : Bool :=
  nom.target.isNone && decide (t.capacity * 95 / 100 ≤ t.level)

/-- Take up the first WAITING nomination among the positions listed, skipping those with nothing to fill;
when none remains the delivery is COMPLETE (R120). The target of a nomination so skipped stays absent (log 71). -/
def takeUpFrom (n : Nat) : List Nat → State → State
  | [], s => enterDone n .complete s
  | k :: ks, s =>
    match (s.ctx n).noms[k - 1]? with
    | none => takeUpFrom n ks s
    | some nom =>
      if nom.status ≠ .waiting then takeUpFrom n ks s
      else if nom.nothingToFill (s.tankRec nom.tank) then
        takeUpFrom n ks (s.updCtx n (fun c =>
          { c with
            current := some k
            noms := c.noms.modify (k - 1) (fun m => { m with status := .skipped, delivered := 0 }) }))
      else makeCurrent n k nom s

/-- Take up the next WAITING nomination in list order (R120). -/
def takeUpNext (n : Nat) (s : State) : State :=
  takeUpFrom n (List.range' 1 (s.ctx n).noms.length) s

/-! ## Finishing a nomination (R123) -/

/-- What the bowser metered since the nomination's start. -/
def Ctx.metered (c : Ctx) : Nat := c.lastMeter - ((c.currentNom.bind Nomination.startMeter).getD 0)

/-- The current nomination has started (06: "when its start meter is present"). -/
def Ctx.started (c : Ctx) : Bool := (c.currentNom.bind Nomination.startMeter).isSome

/-- The current nomination has started and is FILLING or OVERRUN. -/
def Ctx.running (c : Ctx) : Bool :=
  c.started && c.currentNom.any (fun m => decide (m.status = .filling ∨ m.status = .overrun))

/-- Write the delivered quantity of the current nomination, give it a status and credit its tank (R123 steps
1 and 2, R127, R134). -/
def creditCurrent (n : Nat) (st : NomStatus) (s : State) : State :=
  let c := s.ctx n
  let ml := c.metered
  creditFuel (c.currentTank.getD 0) ml
    (s.updCtx n (Ctx.updCurrent (fun m => { m with status := st, delivered := ml })))

/-- A context with its valve shut starts its WAITING nomination: DISPENSING with FILL (R126). -/
def resumeWaiting (n : Nat) (s : State) : State :=
  let s1 := s.updCtx n (fun c => { c with state := .dispensing })
  orderFill n (((s.ctx n).currentNom.bind Nomination.target).getD 0) s1

/-- R123 step 4: the context leaves its state and takes up the next nomination; left in SUSPENDED with no
cause, it resumes at once. -/
def goOnToNext (n : Nat) (s : State) : State :=
  let s1 := s.updCtx n (fun c =>
    match c.state with
    | .suspending => { c with state := .suspended }
    | .stalled => { c with state := .dispensing }
    | .idle | .gathering | .dispensing | .suspended | .done => c)
  let s2 := takeUpNext n s1
  let c := s2.ctx n
  if decide (c.state = .suspended) && !c.byRequest && !c.byChangeover then resumeWaiting n s2 else s2

/-- The hose completion of the current nomination (R123). The state step 4 reads is the one that step 2's
hand-off has left (log 26). -/
def completeCurrent (n : Nat) (s : State) : State :=
  let s1 := creditCurrent n .filled s
  let s2 := s1.updCtx n (fun c =>
    { c with fill := none, fillLeft := none, settle := none, haltSent := false, byChangeover := false })
  goOnToNext n s2

/-! ## Resumption (R126) -/

/-- The fill deadline runs again from what was left of it. -/
def Ctx.unpauseFill (now : Nat) (c : Ctx) : Ctx :=
  { c with fill := some (now + c.fillLeft.getD 0), fillLeft := none }

/-- A context whose suspend causes are gone resumes, by its current nomination (R126). The fill time remaining of one
that has not started is kept until its FILL is accepted (log 72). -/
def resume (n : Nat) (s : State) : State :=
  let c := s.ctx n
  let s1 := s.updCtx n (fun c => { c with state := .dispensing })
  match c.currentNom with
  | none => s1
  | some nom =>
    match nom.status with
    | .waiting => orderFill n (nom.target.getD 0) s1
    | .filling | .overrun =>
      if c.haltSent then
        let target := nom.target.getD 0
        if c.metered < target then
          orderFill n (target - c.metered)
            (s1.updCtx n (fun c => (c.unpauseFill s.clock).updCurrent
              (fun m => { m with status := .filling })))
        else completeCurrent n s1
      else
        orderBowser n Kind.valveOpen (.valveOpen n c.serial (c.current.getD 0))
          (s1.updCtx n (Ctx.unpauseFill s.clock))
    | .filled | .skipped | .unverified => s1

/-- Resume a context that stands in SUSPENDED with no suspend cause (R126). -/
def resumeIfFree (n : Nat) (s : State) : State :=
  let c := s.ctx n
  if decide (c.state = .suspended) && !c.byRequest && !c.byChangeover then resume n s else s

/-! ## The end of switching (R132) -/

/-- BY_CHANGEOVER is evaluated again and removed when the current tank is no longer touched. -/
def reviewChangeover (n : Nat) (s : State) : State :=
  let c := s.ctx n
  if c.byChangeover && !(c.currentTank.any s.tankTouched) then
    resumeIfFree n (s.updCtx n (fun c => { c with byChangeover := false }))
  else s

/-- "Switching ends": every context that holds BY_CHANGEOVER is evaluated again, context 1 first (R132; the order,
log 74). -/
def switchingEnds (s : State) : State := forEach [1, 2] reviewChangeover s

/-! ## Outcomes of orders to the bowser -/

/-- A FILL outcome is judged when it was sent for the nomination that is current in a context still active
(R121). -/
def State.fillCurrent (s : State) (n serial nom : Nat) : Bool :=
  let c := s.ctx n
  c.state.dealing && decide (c.serial = serial ∧ c.current = some nom)

/-- A FILL is accepted with the bowser meter (R121). A deadline that runs leaves no fill time remaining, which is
present only while the deadline is paused (06, "The delivery context"). One taken in STALLED clears the halt sent
mark as any other does (log 73). -/
def fillAccepted (n meter : Nat) (s : State) : State :=
  let s1 := s.updCtx n (fun c =>
    let c1 := c.updCurrent (fun m =>
      { m with status := .filling, startMeter := some (m.startMeter.getD meter) })
    let c2 := { c1 with lastMeter := max c.lastMeter meter, haltSent := false, progress := 0 }
    if c.state = .dispensing then { c2 with fill := some (s.clock + Config.fillTime), fillLeft := none }
    else if c.state = .suspending ∨ c.state = .suspended then
      { c2 with fillLeft := some Config.fillTime }
    else c2)
  s1.updTank (((s.ctx n).currentTank).getD 0) (fun t => { t with filling := true })

/-- The outcome of a FILL: an acceptance with its meter, or a refusal or no answer, which stalls the context
(R121). -/
def fillOutcome (n serial nom : Nat) (accepted : Option Nat) (s : State) : State :=
  if s.fillCurrent n serial nom then
    match accepted with
    | some meter => fillAccepted n meter s
    | none => stall n s
  else s

/-- The outcome of a VALVE_OPEN: discarded unless the context is DISPENSING on the same nomination; refused
or unanswered it stalls the context (R126). -/
def valveOpenOutcome (n serial nom : Nat) (accepted : Bool) (s : State) : State :=
  if s.fillCurrent n serial nom && decide ((s.ctx n).state = .dispensing) && !accepted then stall n s
  else s

/-- SUSPENDING ends: the context becomes SUSPENDED, and resumes at once when its causes are gone (R129). -/
def endSuspending (n : Nat) (s : State) : State :=
  resumeIfFree n (s.updCtx n (fun c => { c with state := .suspended, settle := none }))

/-- A reading at or above the last bowser meter becomes the last bowser meter (R122). -/
def Ctx.meter (ml : Nat) (c : Ctx) : Ctx := { c with lastMeter := max c.lastMeter ml }

/-- The outcome of a VALVE_SHUT (R129): a refusal or no answer leaves the settle deadline to decide. -/
def valveShutOutcome (n serial : Nat) (accepted : Option Nat) (s : State) : State :=
  let c := s.ctx n
  match accepted with
  | none => s
  | some meter =>
    if c.state.active && decide (c.serial = serial) then
      let s1 := s.updCtx n (Ctx.meter meter)
      if c.state = .suspending then endSuspending n s1 else s1
    else s

/-! ## Bowser reports (R122, R123) -/

/-- The context in DISPENSING, SUSPENDING, SUSPENDED or STALLED whose bowser node is an address (R122). -/
def State.bowserCtx (s : State) (node : Nat) : Option Nat :=
  ([1, 2] : List Nat).find? (fun n =>
    (s.ctx n).state.dealing && decide ((s.ctx n).bowser = some node))

/-- A bowser report in a matched context: the meter, and in DISPENSING and SUSPENDING the progress count,
which wraps from 255 to 0 (R122). -/
def meterReport (n ml : Nat) (s : State) : State :=
  s.updCtx n (fun c =>
    let c1 := c.meter ml
    if c.state = .dispensing ∨ c.state = .suspending then
      { c1 with progress := (c1.progress + 1) % 256 }
    else c1)

/-- BOWSER_METER from a node (R122). -/
def bowserReport (node ml : Nat) (s : State) : State :=
  match s.bowserCtx node with
  | some n => meterReport n ml s
  | none => s

/-- HOSE_DONE from a node: the meter update, and the completion when the current nomination has started
(R123). -/
def hoseReport (node ml : Nat) (s : State) : State :=
  match s.bowserCtx node with
  | some n =>
    let s1 := meterReport n ml s
    if (s1.ctx n).running then completeCurrent n s1 else s1
  | none => s

/-! ## Requests on a context, after their checks -/

/-- A void: every nomination is released and the context is IDLE again (R114, R128). -/
def voidDelivery (n : Nat) (s : State) : State :=
  raise .deliveryVoid .deliveries n (s.ctx n).docket (s.updCtx n (fun _ => {}))

/-- SUSPEND_DELIVERY by state (R128). -/
def suspendDelivery (n : Nat) (s : State) : State × Answer :=
  let mark := s.updCtx n (fun c => { c with byRequest := true })
  match (s.ctx n).state with
  | .gathering => (voidDelivery n s, .done)
  | .dispensing => (suspendFlow n mark, .done)
  | .suspending | .suspended => (mark, .done)
  | .idle | .stalled | .done => (s, .wrongState)

/-- RESUME_DELIVERY in STALLED (R125). The fill time remaining is set for a nomination that has not started too
(log 72). -/
def resumeStalled (n : Nat) (s : State) : State :=
  let s1 := s.updCtx n (fun c =>
    let c1 := { c with byRequest := false, fillLeft := some Config.fillTime }
    if c.started then c1.updCurrent (fun m => { m with status := .filling }) else c1)
  if (s.ctx n).byChangeover then s1.updCtx n (fun c => { c with state := .suspended })
  else resume n s1

/-- RESUME_DELIVERY by state (R125, R128). -/
def resumeDelivery (n : Nat) (s : State) : State × Answer :=
  match (s.ctx n).state with
  | .suspended => (resumeIfFree n (s.updCtx n (fun c => { c with byRequest := false })), .done)
  | .stalled => (resumeStalled n s, .done)
  | .idle | .gathering | .dispensing => (s, .done)
  | .suspending | .done => (s, .wrongState)

/-- SKIP_NOMINATION (R127). -/
def skipNomination (n : Nat) (s : State) : State × Answer :=
  let c := s.ctx n
  if c.state = .stalled then
    let s1 := if c.started then creditCurrent n .skipped s
      else s.updCtx n (Ctx.updCurrent (fun m => { m with status := .skipped }))
    let s2 := s1.updCtx n (fun c => { c with haltSent := false, byChangeover := false })
    (takeUpNext n s2, .done)
  else (s, .wrongState)

/-- Every WAITING nomination becomes SKIPPED with delivered 0 (R134, R137). -/
def Ctx.skipWaiting (c : Ctx) : Ctx :=
  { c with noms := c.noms.map (fun m =>
      if m.status = .waiting then { m with status := .skipped, delivered := 0 } else m) }

/-- ABANDON_DELIVERY (R134). -/
def abandonDelivery (n : Nat) (s : State) : State × Answer :=
  let c := s.ctx n
  if c.state.active then
    let s1 := if c.state = .gathering then s else orderBowser n Kind.haltFill .nothing s
    let s2 := if c.running then creditCurrent n .unverified s1 else s1
    (enterDone n .abandoned (s2.updCtx n Ctx.skipWaiting), .done)
  else (s, .wrongState)

/-- A nomination of an active context names the tank (R116, R118, R25). -/
def State.nominated (s : State) (tank : Nat) : Bool :=
  ([1, 2] : List Nat).any (fun n =>
    (s.ctx n).state.active && (s.ctx n).noms.any (fun m => decide (m.tank = tank)))

/-- An accepted OPEN_DELIVERY (R117). -/
def openContext (n bowser docket tank : Nat) (target : Option Nat) (opener : Party) (s : State) :
    State :=
  s.bumpId.updCtx n (fun _ =>
    { state := .gathering
      bowser := some bowser
      opener := some opener
      docket := some docket
      openTime := some s.clock
      gathering := some (s.clock + Config.gatheringWindow)
      noms := [{ tank, target }]
      serial := s.nextId })

/-- An accepted NOMINATE (R118). -/
def appendNomination (n tank : Nat) (target : Option Nat) (s : State) : State :=
  s.updCtx n (fun c =>
    { c with
      noms := c.noms ++ [{ tank, target }]
      gathering := some (s.clock + Config.gatheringWindow) })

/-! ## Deadlines -/

/-- A deadline that is present and reached. -/
def reached (d : Option Nat) (now : Nat) : Bool := d.any (fun t => decide (t ≤ now))

/-- The gathering window ends (R119). -/
def gatheringEnds (n : Nat) (s : State) : State :=
  if (n = 1 ∨ n = 2) ∧ (s.ctx n).state = .gathering ∧ reached (s.ctx n).gathering s.clock then
    takeUpNext n (s.updCtx n (fun c => { c with state := .dispensing, gathering := none }))
  else s

/-- A fill runs past its 20 minutes: OVERRUN, HALT_FILL, STALLED (R124). -/
def fillEnds (n : Nat) (s : State) : State :=
  if (n = 1 ∨ n = 2) ∧ (s.ctx n).state = .dispensing ∧ reached (s.ctx n).fill s.clock then
    stall n (s.updCtx n (Ctx.updCurrent (fun m => { m with status := .overrun })))
  else s

/-- The settle window ends in SUSPENDING (R129). -/
def settleEnds (n : Nat) (s : State) : State :=
  if (n = 1 ∨ n = 2) ∧ (s.ctx n).state = .suspending ∧ reached (s.ctx n).settle s.clock then endSuspending n s
  else s

/-- GATHERING_DEADLINE (R119). -/
def execGatheringDeadline (ctx : Nat) (s : State) : Host.Outcome State Fault Refusal :=
  .next (unlessHeld (gatheringEnds ctx) s)

/-- FILL_DEADLINE (R124). -/
def execFillDeadline (ctx : Nat) (s : State) : Host.Outcome State Fault Refusal :=
  .next (unlessHeld (fillEnds ctx) s)

/-- SETTLE_DEADLINE (R129). -/
def execSettleDeadline (ctx : Nat) (s : State) : Host.Outcome State Fault Refusal :=
  .next (unlessHeld (settleEnds ctx) s)

end Sys2Proof.Machine
end

