-- ==== Sys2Proof/Machine/Points.lean ====
section
/-! DEFINITION. Switch points and boundary reads (04, R75, R76, R80): the share of the Meter Scanner that the
Transfer Controller calls at a change of supply. -/

namespace Sys2Proof.Machine

/-- Append a switch point; a list of two loses its second and the estimated-split mark is set (R76). -/
def FeederRec.addPoint (p : SwitchPoint) (r : FeederRec) : FeederRec :=
  match r.points with
  | [] => { r with points := [p] }
  | [a] => { r with points := [a, p] }
  | a :: _ :: _ => { r with points := [a, p], estimated := true }

/-- Note the read just offered for a feeder as the one in flight. -/
def FeederRec.reading (frame : Nat) (boundary servesPass : Bool) (r : FeederRec) : FeederRec :=
  { r with inFlight := some { frame, boundary, servesPass } }

/-- Offer a boundary read at the head of the QUERY class; one that cannot be queued sets the unread mark and
leaves the boundary-wanted mark set (R72, R80; log 39). -/
def offerBoundary (n : Nat) (s : State) : State :=
  match offerQuery (s.feederRec n).meter Kind.readMeter (.readMeter n) true s with
  | (s1, some id) => s1.updFeeder n (FeederRec.reading id true false)
  | (s1, none) => s1.updFeeder n (fun r => { r with unread := true })

/-- A boundary read is asked for a feeder: the mark is set, and a read already in flight serves (R80). -/
def askBoundary (n : Nat) (s : State) : State :=
  let s1 := s.updFeeder n (fun r => { r with boundary := true })
  match (s.feederRec n).inFlight with
  | some f => s1.updFeeder n (fun r => { r with inFlight := some { f with servesBoundary := true } })
  | none => offerBoundary n s1

/-- The feeders of a bus, in ascending number. -/
def State.feedersOf (s : State) (bus : Nat) : List Nat :=
  Tbl.nums (s.feeders.filter (fun e => e.2.bus = bus))

/-- A change of a bus's supplying set: the point (now, set-before) on each of its feeders, and then a boundary
read of each, asked in ascending feeder number (R75, R84; the order,
09_the_site_line.md, "Example: a settle that fills the queue"). -/
def markSupplyChange (bus : Nat) (before : Option Nat) (s : State) : State :=
  let p : SwitchPoint := { time := s.clock, setBefore := before }
  let s1 := s.onFeeders (fun t => t.updAll (fun r => if r.bus = bus then r.addPoint p else r))
  forEach (s.feedersOf bus) askBoundary s1

end Sys2Proof.Machine
end

