-- ==== Sys2Proof/Machine/SetOrders.lean ====
section
/-! DEFINITION. Orders to set controllers and the supplies count (01, R14 to R16; 05, R83). -/

namespace Sys2Proof.Machine

/-- Send START for a changeover: a COOLING set's cool-down deadline is dropped at the sending (R14), and the
bus keeps the order as the one whose failure aborts it (R90). -/
def sendStart (set bus : Nat) (s : State) : State :=
  let r := s.setRec set
  let cooling := decide (r.op = .cooling)
  let (s1, id) := offerOrder r.node Kind.start [] (.start set r.serial cooling) s
  (s1.updSet set (fun t =>
    { t with
      startFrame := some id
      coolDeadline := if cooling then none else t.coolDeadline })).updBus bus
    (fun b => { b with awaited := some id })

/-- Send START to cancel a cool-down at the controller (R17). -/
def sendStartCancel (set : Nat) (s : State) : State :=
  let r := s.setRec set
  sendOrder r.node Kind.start [] (.startCancel set r.serial) s

/-- Send COOL. -/
def sendCool (set : Nat) (s : State) : State :=
  let r := s.setRec set
  sendOrder r.node Kind.cool [] (.cool set r.serial) s

/-- Send STOP. -/
def sendStop (set : Nat) (s : State) : State :=
  let r := s.setRec set
  sendOrder r.node Kind.stop [] (.stop set r.serial) s

/-- The automatic cool-down: a RUNNING set with a supplies count of 0 and no changeover bus is sent COOL
(R16). -/
def coolCheck (set : Nat) (s : State) : State :=
  let r := s.setRec set
  if r.supplies = 0 ∧ r.op = .running ∧ r.chBus = none then sendCool set s else s

/-- A supplies count rises by 1 (R83). -/
def incSupplies (set : Nat) (s : State) : State :=
  s.updSet set (fun r => { r with supplies := r.supplies + 1 })

/-- A supplies count falls by 1; fallen to 0, the check of R16 is made (R83). -/
def decSupplies (set : Nat) (s : State) : State :=
  coolCheck set (s.updSet set (fun r => { r with supplies := r.supplies - 1 }))

end Sys2Proof.Machine
end

