-- ==== Sys2Proof/Machine/Arbiter.lean ====
section
/-! DEFINITION. Standby sets: the arbiter, EMERGENCY changeovers, and the end of a set's part in a changeover
(05, R86, R105 to R107), with the ordering of an incoming set that they share with CHANGEOVER (R88). -/

namespace Sys2Proof.Machine

/-! ## Ordering an incoming set (R88) -/

/-- The order by op state: a STOPPED set is sent START and marked, a COOLING one is sent START, any other
nothing. A START of an earlier changeover is no longer this one's (R86). -/
def orderByOp (bus set : Nat) (s : State) : State :=
  let s0 := s.updSet set (fun r => { r with startFrame := none })
  match (s.setRec set).op with
  | .stopped => sendStart set bus (s0.updSet set (fun r => { r with startedByCh := true }))
  | .cooling => sendStart set bus s0
  | .starting | .running | .fault => s0

/-- The incoming set is ordered by its op state, with the warm-up deadline when it is not RUNNING; then the
PENDING changeover is evaluated (R88, R107). -/
def startIncoming (bus set : Nat) (s : State) : State :=
  let s1 := orderByOp bus set s
  let s2 := if (s.setRec set).op = .running then s1
    else s1.updBus bus (fun b => { b with warmUp := some (s.clock + Config.warmUp) })
  evaluatePending bus s2

/-- A changeover takes a set (R86). -/
def takePart (bus set : Nat) (role : ChRole) (s : State) : State :=
  s.updSet set (fun r => { r with chBus := some bus, chRole := some role })

/-- A set's part ends: its changeover bus and role are cleared (R86). -/
def clearPart (set : Nat) (s : State) : State :=
  s.updSet set (fun r => { r with chBus := none, chRole := none })

/-! ## The arbiter (R105) -/

/-- An EMERGENCY changeover of a LOST bus to its standby set (R107). -/
def beginEmergency (bus set : Nat) (s : State) : State :=
  let s1 := s.updBus bus (fun b =>
    { b with
      state := .pending
      incoming := some set
      kind := some .emergency
      requester := none
      fuelWait := none
      queued := false
      awaited := none })
  startIncoming bus set (takePart bus set .incoming s1)

/-- A LOST bus waits for its standby set. -/
def queueBus (bus : Nat) (s : State) : State := s.updBus bus (fun b => { b with queued := true })

/-- A LOST bus cannot have its standby set: STANDBY_UNAVAILABLE, and the queued mark cleared. -/
def standbyUnavailable (set bus : Nat) (s : State) : State :=
  raise .standbyUnavailable .buses bus (some set)
    (s.updBus bus (fun b => { b with queued := false }))

/-- Candidates in ascending number: the first whose L′ is at most 1000 is given the changeover, those before
it are turned away and those after it are queued (R105). -/
def giveStandby (set : Nat) : List Nat → State → State
  | [], s => s
  | b :: bs, s =>
    if s.projectedLoad set b ≤ 1000 then beginEmergency b set (forEach bs queueBus s)
    else giveStandby set bs (standbyUnavailable set b s)

/-- A standby set that no candidate may have now (R105, row 2). -/
def SetRec.noStandby (r : SetRec) : Bool :=
  decide (r.status ≠ .inUse ∨ r.op = .fault ∨ r.silent = true ∨ Config.suppliesMax ≤ r.supplies)

/-- The arbiter of one standby set acts on its candidates, each row taking them in ascending number (R105; the order
of rows 1 and 2, log 75). -/
def arbiterActs (set : Nat) (candidates : List Nat) (s : State) : State :=
  let r := s.setRec set
  if r.chBus.isSome then forEach candidates queueBus s
  else if r.noStandby then forEach candidates (standbyUnavailable set) s
  else giveStandby set candidates s

/-- The LOST buses that name a standby set and meet a test, ascending. -/
def State.lostNaming (s : State) (set : Nat) (p : Nat → BusRec → Bool) : List Nat :=
  Tbl.nums (s.buses.filter (fun e =>
    decide (e.2.state = .lost ∧ e.2.standby = some set) && p e.1 e.2))

/-- LOST buses are handed to standby arbitration: the arbiter of each standby set they name acts once, in
ascending set number, on those handed and those queued (R105). -/
def arbitrate (handed : List Nat) (s : State) : State :=
  let named := (List.range' 1 Config.sets).filter (fun n =>
    !(s.lostNaming n (fun b _ => decide (b ∈ handed))).isEmpty)
  forEach named (fun n t =>
    arbiterActs n (t.lostNaming n (fun b r => decide (b ∈ handed) || r.queued)) t) s

/-! ## The end of a set's part (R86, R106) -/

/-- Standby re-evaluation: the arbiter considers the queued buses of a set whose part has ended (R106). -/
def reevaluate (set : Nat) (s : State) : State :=
  let queued := s.lostNaming set (fun _ r => r.queued)
  if queued.isEmpty then s else arbiterActs set queued s

/-- The order by the started-by-changeover mark, for a set with no changeover bus and a supplies count of 0;
with its START still awaited, none yet (R86). -/
def orderByMark (set : Nat) (s : State) : State :=
  let r := s.setRec set
  if r.startedByCh then
    if r.startFrame.isSome then s
    else
      let s1 := s.updSet set (fun t => { t with startedByCh := false })
      if r.op.burns then sendStop set s1 else s1
  else if r.op = .running then sendCool set s
  else s

/-- The end of a set's part is handed on: re-evaluation first, then the order its mark decides (R86). -/
def partEnd (set : Nat) (s : State) : State :=
  let s1 := reevaluate set s
  let r := s1.setRec set
  if 0 < r.supplies then s1.updSet set (fun t => { t with startedByCh := false })
  else if r.chBus.isSome then s1
  else orderByMark set s1

end Sys2Proof.Machine
end

