-- ==== Sys2Proof/Machine/Transfer.lean ====
section
/-! DEFINITION. The Transfer Controller's bus state machine (05): loss of supply, settle, abort, UNCERTAIN and
its resolution. A rule's record steps are taken first, bus by bus; what follows them within the event
(arbitration, notices, hand-offs, ends of parts) is gathered in `Follow` and taken by `finish`. -/

namespace Sys2Proof.Machine

/-! ## What follows the record steps -/

/-- A notice or hand-off that a rule lists after the record steps. -/
inductive Tail where
  /-- CHANGEOVER_ABORTED, and the end of switching when the bus was switching (R99, steps 4 and 5). -/
  | aborted (bus : Nat) (reason : AbortReason) (switching : Bool)
  /-- CHANGEOVER_SETTLED, and the end of switching when the bus was switching (R96, R98, R109). -/
  | settled (bus value : Nat) (switching : Bool)
  /-- The end of switching for a set released while its bus stays switching (R97, R103). -/
  | switchEnds
  /-- The start of switching, naming sets (R103, R109). -/
  | switchBegins (sets : List Nat)
  deriving DecidableEq, Repr

/-- What follows the record steps of an event. -/
structure Follow where
  /-- Buses to be handed to standby arbitration. -/
  lost : List Nat := []
  /-- Buses that failed to enter STEADY: their loss of supply follows the event's other steps (R85). -/
  drop : List Nat := []
  tails : List Tail := []
  /-- Sets whose part ended, in the order it is handed on. -/
  ended : List Nat := []
  deriving DecidableEq, Repr

def Follow.append (a b : Follow) : Follow :=
  { lost := a.lost ++ b.lost, drop := a.drop ++ b.drop, tails := a.tails ++ b.tails,
    ended := a.ended ++ b.ended }

def endSwitchingIf (switching : Bool) (s : State) : State := if switching then switchingEnds s else s

def Tail.take (t : Tail) (s : State) : State :=
  match t with
  | .aborted bus reason switching =>
    endSwitchingIf switching (raise .changeoverAborted .buses bus (some reason.code) s)
  | .settled bus value switching =>
    endSwitchingIf switching (raise .changeoverSettled .buses bus (some value) s)
  | .switchEnds => switchingEnds s
  | .switchBegins sets => switchingBegins sets s

/-! ## Loss of supply (R85) -/

/-- A bus loses its supply: the count falls, the point is appended and dead-since set, BUS_LOST is raised.
The bus is left LOST unless the caller moves it on. -/
def loseSupply (bus : Nat) (s : State) : State :=
  match (s.busRec bus).supplying with
  | none => s
  | some x =>
    let s1 := decSupplies x (s.updBus bus (fun b =>
      { b with state := .lost, supplying := none, deadSince := some s.clock }))
    raise .busLost .buses bus (some x) (markSupplyChange bus (some x) s1)

/-- The steps that follow: arbitration, once, after every bus of the event has become LOST (R101); the
notices and hand-offs; the losses of R85; and last the ends of parts (R86; log 21). -/
def finish (f : Follow) (s : State) : State :=
  let s1 := if f.drop.isEmpty then arbitrate f.lost s else s
  let s2 := forEach f.tails Tail.take s1
  let s3 := if f.drop.isEmpty then s2 else arbitrate (f.lost ++ f.drop) (forEach f.drop loseSupply s2)
  forEach f.ended partEnd s3

/-- Take an event's record steps and what follows them. -/
def conclude (r : State × Follow) : State := finish r.2 r.1

/-! ## Entering STEADY (R85) -/

/-- The incoming set, kind, requester and every deadline and step of a bus become absent (R99 step 2). -/
def BusRec.endChangeover (b : BusRec) : BusRec :=
  { b with
    incoming := none, kind := none, requester := none, warmUp := none, fuelWait := none
    phase := none, step := none, awaited := none }

/-- A bus enters STEADY with set `x` when `x` is RUNNING; when it is not, it enters LOST, and the loss of
supply follows (R85). -/
def enterSteady (bus x : Nat) (s : State) : State × List Nat :=
  if (s.setRec x).op = .running then (s.updBus bus (fun b => { b with state := .steady }), [])
  else (s.updBus bus (fun b => { b with state := .lost }), [bus])

/-! ## Abort (R99) -/

/-- Step 1: the incoming set's count falls in CLOSING_IN and OVERLAP, and in CLOSING_IN its input is ordered
open when it has failed. -/
def abortCounts (bus inc : Nat) (reason : AbortReason) (s : State) : State :=
  match (s.busRec bus).state with
  | .closingIn =>
    let s1 := decSupplies inc s
    if reason = .incomingFault then openUnawaited bus inc s1 else s1
  | .overlap => decSupplies inc s
  | .steady | .lost | .pending | .syncing | .opening | .dead | .uncertain => s

/-- The record steps of an abort; `loss`: the rule makes the bus LOST by loss of supply (R95, R97). -/
def abort (bus : Nat) (reason : AbortReason) (loss : Bool) (s : State) : State × Follow :=
  let r := s.busRec bus
  let inc := r.incoming.getD 0
  let s1 := (abortCounts bus inc reason s).updBus bus BusRec.endChangeover
  let clear := fun t => forEach (inc :: r.supplying.toList) clearPart t
  let after : Follow :=
    { tails := [.aborted bus reason r.state.switching], ended := inc :: r.supplying.toList }
  match r.supplying with
  | none =>
    (clear (s1.updBus bus (fun b => { b with state := .lost })),
      { after with lost := if r.standby = some inc then [] else [bus] })
  | some o =>
    if loss then (clear (loseSupply bus s1), { after with lost := [bus] })
    else
      let (s2, drop) := enterSteady bus o (clear s1)
      (s2, { after with drop })

/-- An abort that leaves the bus with the supply it has (R99). -/
def abortBack (bus : Nat) (reason : AbortReason) (s : State) : State × Follow := abort bus reason false s

/-- An abort in which both inputs show open (R95, R97). -/
def abortLost (bus : Nat) (reason : AbortReason) (s : State) : State × Follow := abort bus reason true s

/-! ## Settle (R96) and the close of a dead bus (R98) -/

/-- The record steps of a settle from OVERLAP. -/
def settle (bus : Nat) (tripped : Bool) (s : State) : State × Follow :=
  let r := s.busRec bus
  let inc := r.incoming.getD 0
  let out := r.supplying.getD 0
  let s1 := decSupplies out (s.updBus bus (fun b => { b with supplying := some inc, incoming := none }))
  let (s2, drop) := enterSteady bus inc s1
  let s3 := (markSupplyChange bus (some out) s2).updBus bus BusRec.endChangeover
  (forEach [inc, out] clearPart s3,
    { drop, tails := [.settled bus tripped.toNat true], ended := [inc, out] })

/-- The record steps of a DEAD bus whose incoming input shows closed (R98). -/
def deadCloses (bus : Nat) (s : State) : State × Follow :=
  let inc := ((s.busRec bus).incoming).getD 0
  let s1 := incSupplies inc (s.updBus bus (fun b => { b with supplying := some inc }))
  let s2 := markSupplyChange bus none s1
  let (s3, drop) := enterSteady bus inc
    (s2.updBus bus (fun b => { b.endChangeover with deadSince := none }))
  (clearPart inc s3, { drop, tails := [.settled bus 0 true], ended := [inc] })

/-- OPENING to DEAD: the outgoing set is released and the incoming input ordered closed (R97). -/
def openingReleases (bus : Nat) (s : State) : State × Follow :=
  let r := s.busRec bus
  let out := r.supplying.getD 0
  let s1 := decSupplies out (s.updBus bus (fun b =>
    { b with supplying := none, deadSince := some s.clock }))
  let s2 := clearPart out (markSupplyChange bus (some out) s1)
  (enterDead bus (r.incoming.getD 0) s2, { tails := [.switchEnds], ended := [out] })

/-! ## UNCERTAIN (R108 to R110) -/

/-- Send ASK_INPUTS to a bus's panel; unqueued, none is awaited (R110). -/
def askInputs (bus : Nat) (s : State) : State :=
  let (s1, id) := offerQuery (s.busRec bus).panel Kind.askInputs (.askInputs bus) false s
  s1.updBus bus (fun b => { b with askFrame := id })

/-- The record steps of R108. -/
def uncertainRecord (bus : Nat) (s : State) : State :=
  let r := s.busRec bus
  let s1 := s.updBus bus (fun b =>
    { b with state := .uncertain, phase := none, step := none, awaited := none })
  if r.state = .opening ∨ r.state = .dead then incSupplies (r.incoming.getD 0) s1 else s1

/-- A bus enters UNCERTAIN: ASK_INPUTS, BUS_UNCERTAIN, and the end of switching (R108). -/
def enterUncertain (bus : Nat) (s : State) : State :=
  switchingEnds (raise .busUncertain .buses bus none (askInputs bus (uncertainRecord bus s)))

/-- At a pass end ASK_INPUTS is sent again to every UNCERTAIN bus that awaits none (R110). -/
def resendAsks (s : State) : State :=
  forEach s.buses.nums (fun b t =>
    if (t.busRec b).state = .uncertain ∧ (t.busRec b).askFrame = none then askInputs b t else t) s

/-- Panel input `k`, from 1, shows closed; an input the panel does not show reads open (log 29). -/
def shows (closed : List Bool) (k : Nat) : Bool := decide (0 < k) && (closed[k - 1]?).getD false

/-- The input of a set on a bus shows closed. -/
def BusRec.showsSet (r : BusRec) (closed : List Bool) (set : Option Nat) : Bool :=
  shows closed ((set.bind r.position).getD 0)

/-- An input other than those of the supplying and the incoming set shows closed (R109). -/
def BusRec.otherShows (r : BusRec) (closed : List Bool) : Bool :=
  let named := [(r.supplying.bind r.position).getD 0, (r.incoming.bind r.position).getD 0]
  (List.range' 1 closed.length).any (fun k => shows closed k && decide (k ∉ named))

/-- The fields a resolved bus loses, but for a result of OVERLAP (R109). -/
def BusRec.endUncertain (b : BusRec) : BusRec := { b.endChangeover with askFrame := none }

/-- S closed, I open: the bus returns to its supplying set (R109). -/
def resolveBack (bus inc x : Nat) (s : State) : State × Follow :=
  let s1 := (decSupplies inc s).updBus bus BusRec.endUncertain
  let (s2, drop) := enterSteady bus x (forEach [inc, x] clearPart s1)
  (s2, { drop, ended := [inc, x] })

/-- I closed, S open or absent: the incoming set supplies the bus (R109). -/
def resolveTo (bus inc : Nat) (before : Option Nat) (s : State) : State × Follow :=
  let s1 := forEach before.toList decSupplies
    (s.updBus bus (fun b => { b with supplying := some inc, deadSince := none }))
  let s2 := (markSupplyChange bus before s1).updBus bus BusRec.endUncertain
  let (s3, drop) := enterSteady bus inc (forEach (inc :: before.toList) clearPart s2)
  (s3, { drop, tails := [.settled bus 0 false], ended := inc :: before.toList })

/-- S and I closed: OVERLAP, with the input ordered open that the incoming set's op state decides (R109). -/
def resolveOverlap (bus inc x : Nat) (s : State) : State × Follow :=
  let up := decide ((s.setRec inc).op = .running)
  let s1 := s.updBus bus (fun b =>
    { b with
      state := .overlap
      step := some (if up then .releasing else .backingOut)
      phase := some (s.clock + (if up then Config.releasePhase else Config.openPhase))
      askFrame := none })
  (orderPanel bus Kind.openInput (if up then x else inc) s1, { tails := [.switchBegins [inc, x]] })

/-- No input closed: the bus is LOST (R109; without a supplying set the exception of R85 applies, log 22). -/
def resolveLost (bus inc : Nat) (before : Option Nat) (s : State) : State × Follow :=
  let r := s.busRec bus
  let s1 := loseSupply bus (decSupplies inc s)
  let s2 := s1.updBus bus (fun b => { b.endUncertain with state := .lost })
  (forEach (inc :: before.toList) clearPart s2,
    { lost := if before = none ∧ r.standby = some inc then [] else [bus]
      ended := inc :: before.toList })

/-- The resolution of an UNCERTAIN bus by the positions of its panel (R109). -/
def resolve (bus : Nat) (closed : List Bool) (s : State) : State × Follow :=
  let r := s.busRec bus
  let inc := r.incoming.getD 0
  let iClosed := r.showsSet closed r.incoming
  if r.otherShows closed then (raise .busUncertain .buses bus none s, {})
  else match r.supplying with
    | some x =>
      match r.showsSet closed (some x), iClosed with
      | true, false => resolveBack bus inc x s
      | true, true => resolveOverlap bus inc x s
      | false, true => resolveTo bus inc (some x) s
      | false, false => resolveLost bus inc (some x) s
    | none => if iClosed then resolveTo bus inc none s else resolveLost bus inc none s

/-! ## Conversion to EMERGENCY (R103) -/

/-- The outgoing set of a changeover in PENDING or SYNCING has left RUNNING (R103). -/
def convert (bus : Nat) (s : State) : State × Follow :=
  let r := s.busRec bus
  let inc := r.incoming.getD 0
  let out := r.supplying.getD 0
  let s1 := (loseSupply bus s).updBus bus (fun b =>
    { b with state := .pending, kind := some .emergency, fuelWait := none, phase := none })
  let s2 := clearPart out s1
  if (s.setRec inc).op = .running then
    (enterDead bus inc s2,
      { tails := [if r.state = .syncing then .switchEnds else .switchBegins [inc]], ended := [out] })
  else (s2, { ended := [out] })

end Sys2Proof.Machine
end

