-- ==== Sys2Proof/Machine/Changeover.lean ====
section
/-! DEFINITION. The events of a changeover (05): set reports, panel replies, SYNC_OK, deadlines, and the
requests CHANGEOVER, CANCEL_CHANGEOVER and CONFIRM_SUPPLY after their rights. -/

namespace Sys2Proof.Machine

/-! ## Set reports (R101 to R103) -/

/-- The supplying set of a bus has left RUNNING. -/
def supplierLeaves (bus : Nat) (s : State) : State × Follow :=
  match (s.busRec bus).state with
  | .steady => (loseSupply bus s, { lost := [bus] })
  | .pending | .syncing => convert bus s
  | .lost | .closingIn | .overlap | .opening | .dead | .uncertain => (s, {})

/-- OVERLAP backs out of a failed incoming set (R95). -/
def backOut (bus inc : Nat) (s : State) : State :=
  orderPanel bus Kind.openInput inc (s.updBus bus (fun b =>
    { b with step := some .backingOut, phase := some (s.clock + Config.openPhase) }))

/-- The incoming set of a bus has changed op state (R102). -/
def incomingChanges (bus inc : Nat) (s : State) : State × Follow :=
  let op := (s.setRec inc).op
  let r := s.busRec bus
  match r.state with
  | .pending =>
    match op with
    | .running => (evaluatePending bus (s.updBus bus (fun b => { b with warmUp := none })), {})
    | .starting => (s, {})
    | .stopped | .cooling | .fault => abortBack bus .incomingFault s
  | .syncing | .closingIn => if op = .running then (s, {}) else abortBack bus .incomingFault s
  | .overlap =>
    if op ≠ .running ∧ r.step ≠ some .backingOut then (backOut bus inc s, {}) else (s, {})
  | .dead =>
    if op = .running then (s, {}) else abortBack bus .incomingFault (openUnawaited bus inc s)
  | .steady | .lost | .opening | .uncertain => (s, {})

/-- One bus that a change of op state reaches (R101); `was`: the op state before. -/
def busSeesChange (set : Nat) (was : OpState) (bus : Nat) (s : State) : State × Follow :=
  let r := s.busRec bus
  if r.supplying = some set then
    if was = .running then supplierLeaves bus s else (s, {})
  else if r.incoming = some set then incomingChanges bus set s
  else (s, {})

/-- The buses that a change of a set's op state reaches, in ascending number (R12, R101). -/
def State.busesOf (s : State) (set : Nat) : List Nat :=
  Tbl.nums (s.buses.filter (fun e =>
    decide (e.2.supplying = some set ∨ (s.setRec set).chBus = some e.1)))

/-- What follows an event's record steps makes a bus LOST. -/
def Follow.loses (f : Follow) : Bool := !(f.lost.isEmpty && f.drop.isEmpty)

/-- The buses that a change of op state reaches, in the order given, each taken whole at its place: its record
steps, its notices and hand-offs, its ends of parts. Of a bus that becomes LOST while a later one does too, the
arbitration, and the ends of parts that come after it (R86), are gathered in `w` and taken after the last (R101;
log 21). -/
def seeBuses (set : Nat) (was : OpState) : List Nat → Follow → State → State
  | [], w, s => finish w s
  | b :: bs, w, s =>
    let (t, f) := busSeesChange set was b s
    if !f.loses then seeBuses set was bs w (finish f t)
    else if bs.any (fun c => (busSeesChange set was c t).2.loses) then
      seeBuses set was bs (w.append { f with tails := [] }) (forEach f.tails Tail.take t)
    else seeBuses set was bs {} (finish (w.append f) t)

/-- The Transfer Controller is told of a change of a set's op state: every bus reached is taken in ascending
number, and the arbitration of those that become LOST is made once, after all of them (R101). -/
def transferSees (set : Nat) (was : OpState) (s : State) : State :=
  seeBuses set was (s.busesOf set) {} s

/-! ## Panel replies (R94, R95, R97, R98) -/

/-- The outgoing input is ordered open by trip (R95). -/
def trip (bus : Nat) (s : State) : State :=
  orderPanel bus Kind.tripInput (((s.busRec bus).supplying).getD 0) (s.updBus bus (fun b =>
    { b with step := some .tripping, phase := some (s.clock + Config.tripPhase) }))

/-- The incoming input has closed: OVERLAP in step RELEASING (R94). -/
def enterOverlap (bus : Nat) (s : State) : State :=
  orderPanel bus Kind.openInput (((s.busRec bus).supplying).getD 0) (s.updBus bus (fun b =>
    { b with
      state := .overlap
      step := some .releasing
      phase := some (s.clock + Config.releasePhase) }))

/-- An INPUTS reply in OVERLAP, by step (R95). `i`, `o`: the incoming and the outgoing input show closed. -/
def judgeOverlap (bus : Nat) (i o : Bool) (s : State) : State × Follow :=
  match (s.busRec bus).step with
  | some .backingOut =>
    match i, o with
    | false, true => abortBack bus .incomingFault s
    | false, false => abortLost bus .incomingFault s
    | true, _ => (enterUncertain bus s, {})
  | some .tripping =>
    match i, o with
    | true, false => settle bus true s
    | true, true => (enterUncertain bus s, {})
    | false, true => abortBack bus .closeFailed s
    | false, false => abortLost bus .closeFailed s
  | some .releasing | none =>
    match i, o with
    | true, false => settle bus false s
    | true, true => (trip bus s, {})
    | false, true => abortBack bus .closeFailed s
    | false, false => abortLost bus .closeFailed s

/-- An INPUTS reply in OPENING, judged with the incoming set's op state (R97). -/
def judgeOpening (bus : Nat) (o : Bool) (s : State) : State × Follow :=
  let up := decide ((s.setRec (((s.busRec bus).incoming).getD 0)).op = .running)
  match o, up with
  | false, true => openingReleases bus s
  | false, false => abortLost bus .incomingFault s
  | true, true => abortBack bus .openFailed s
  | true, false => abortBack bus .incomingFault s

/-- The INPUTS reply that a bus awaits (R94, R95, R97, R98). -/
def judgeInputs (bus : Nat) (closed : List Bool) (s : State) : State × Follow :=
  let r := s.busRec bus
  let i := r.showsSet closed r.incoming
  let o := r.showsSet closed r.supplying
  match r.state with
  | .closingIn => if i then (enterOverlap bus s, {}) else abortBack bus .closeFailed s
  | .overlap => judgeOverlap bus i o s
  | .opening => judgeOpening bus o s
  | .dead => if i then deadCloses bus s else abortBack bus .closeFailed s
  | .steady | .lost | .pending | .syncing | .uncertain => (s, {})

/-- The order a bus awaits receives no answer (R94, R95, R97, R98). -/
def panelUnanswered (bus : Nat) (s : State) : State :=
  match (s.busRec bus).state, (s.busRec bus).step with
  | .overlap, some .releasing => trip bus s
  | .overlap, _ | .closingIn, _ | .opening, _ | .dead, _ => enterUncertain bus s
  | .steady, _ | .lost, _ | .pending, _ | .syncing, _ | .uncertain, _ => s

/-- A phase deadline expires (R93, R94, R95, R97, R98). -/
def phaseExpires (bus : Nat) (s : State) : State :=
  match (s.busRec bus).state with
  | .syncing => conclude (abortBack bus .syncTimeout s)
  | .dead =>
    conclude (abortBack bus .closeFailed (openUnawaited bus (((s.busRec bus).incoming).getD 0) s))
  | .closingIn | .overlap | .opening => panelUnanswered bus s
  | .steady | .lost | .pending | .uncertain => s

/-- An INPUTS from a node: an UNCERTAIN bus whose panel it is takes it whatever it answers; otherwise it is
judged when it is the reply the bus awaits, and discarded when it is not (R92, R109). -/
def takeInputs (source : Nat) (closes : Option Exchange) (closed : List Bool) (s : State) : State :=
  match s.buses.numWhere (fun r => decide (r.panel = source)) with
  | none => s
  | some b =>
    let r := s.busRec b
    if r.state = .uncertain then conclude (resolve b closed s)
    else if closes.any (fun e => decide (e.purpose = .panel b ∧ r.awaited = some e.id)) then
      conclude (judgeInputs b closed s)
    else s

/-- The ASK_INPUTS of a bus has had its outcome (R110). -/
def askAnswered (bus frame : Nat) (s : State) : State :=
  s.updBus bus (fun b => if b.askFrame = some frame then { b with askFrame := none } else b)

/-! ## SYNC (R93) -/

/-- SYNC_OK in step: CLOSING_IN with CLOSE_INPUT for the incoming input. -/
def closeIn (bus inc : Nat) (s : State) : State :=
  incSupplies inc (orderPanel bus Kind.closeInput inc
    (enterPhase bus .closingIn Config.closePhase s))

/-- A SYNC_OK from a node (R93). -/
def takeSyncOk (source : Nat) (s : State) : State :=
  match s.sets.numWhere (fun r => decide (r.node = source)) with
  | none => s
  | some i =>
    match (s.setRec i).chBus with
    | none => s
    | some b =>
      let r := s.busRec b
      if r.state = .syncing ∧ r.incoming = some i then
        if s.projectedEndurance i b < r.required then conclude (abortBack b .enduranceShort s)
        else closeIn b i s
      else s

/-- The outcome of a SYNC that was refused or unanswered, for the bus that awaits it (R93). -/
def syncFails (bus frame : Nat) (reason : AbortReason) (s : State) : State :=
  if (s.busRec bus).state = .syncing ∧ (s.busRec bus).awaited = some frame then
    conclude (abortBack bus reason s)
  else s

/-- The START of a PENDING changeover was refused or unanswered (R90). -/
def pendingStartFails (set frame : Nat) (reason : AbortReason) (s : State) : State :=
  match (s.setRec set).chBus with
  | none => s
  | some b =>
    if (s.busRec b).state = .pending ∧ (s.busRec b).awaited = some frame then
      conclude (abortBack b reason s)
    else s

/-! ## Requests after their rights -/

/-- CHANGEOVER's checks (R87); `ring`: the effective ring. -/
def changeoverRefusal (bus set : Nat) (kind : ChKind) (ring : Nat) (s : State) : Option Answer :=
  let b := s.busRec bus
  let r := s.setRec set
  let out := b.supplying.map s.setRec
  let r0 := decide (ring = 0)
  firstFailing
    [ (decide (b.state ≠ .lost ∨ kind = .opened), .wrongState)
    , (decide (b.state = .steady ∨ b.state = .lost), .busy)
    , (!(s.zoneRec b.zone).showHold || r0, .notPermitted)
    , (decide (kind ≠ .opened) || !b.noBreak || r0, .notPermitted)
    , ((b.position set).isSome, .notCabled)
    , (decide (r.status = .inUse ∧ r.op ≠ .fault) && !r.silent, .wrongState)
    , (decide (b.supplying ≠ some set), .wrongState)
    , (out.all (fun o => !o.silent), .wrongState)
    , ((!r.pinned && out.all (fun o => !o.pinned)) || r0, .notPermitted)
    , (r.chBus.isNone && out.all (fun o => o.chBus.isNone), .busy)
    , (decide (r.supplies < Config.suppliesMax), .noRoom)
    , (decide (s.projectedLoad set bus ≤ 1000), .overRating) ]

/-- An accepted CHANGEOVER (R88). -/
def acceptChangeover (bus set : Nat) (kind : ChKind) (by_ : Party) (s : State) : State :=
  let out := (s.busRec bus).supplying
  let s1 := s.updBus bus (fun b =>
    { b with
      state := .pending
      incoming := some set
      kind := some kind
      requester := some by_
      fuelWait := some (s.clock + Config.fuelWait)
      queued := false
      awaited := none })
  let s2 := takePart bus set .incoming s1
  startIncoming bus set (forEach out.toList (fun o => takePart bus o .outgoing) s2)

/-- CANCEL_CHANGEOVER after its rights (R100). -/
def cancelChangeover (bus ring : Nat) (by_ : Party) (s : State) : State × Answer :=
  let r := s.busRec bus
  if ring ≠ 0 ∧ r.requester ≠ some by_ then (s, .notPermitted)
  else match r.state with
    | .pending | .syncing => (conclude (abortBack bus .cancelled s), .done)
    | .closingIn | .overlap | .opening | .dead | .uncertain => (s, .tooLate)
    | .steady | .lost => (s, .wrongState)

/-- The positions a CONFIRM_SUPPLY stands for: the named set's input alone closed, or none (R111). -/
def confirmedInputs (r : BusRec) (set : Option Nat) : List Bool :=
  match set.bind r.position with
  | some k => List.replicate (k - 1) false ++ [true]
  | none => []

/-- CONFIRM_SUPPLY after its rights (R111; the refusals in the order of its text, log 64). -/
def confirmSupply (bus : Nat) (set : Option Nat) (s : State) : State × Answer :=
  let r := s.busRec bus
  if r.state ≠ .uncertain then (s, .wrongState)
  else if set.any (fun n => (r.position n).isNone) then (s, .notCabled)
  else if set.any (fun n => decide (r.supplying ≠ some n ∧ r.incoming ≠ some n)) then (s, .wrongState)
  else (conclude (resolve bus (confirmedInputs r set) s), .done)

/-! ## Deadlines -/

/-- The warm-up deadline of a PENDING changeover (R90). -/
def warmUpEnds (bus : Nat) (s : State) : State :=
  if (s.busRec bus).state = .pending ∧ reached (s.busRec bus).warmUp s.clock then
    conclude (abortBack bus .warmupTimeout s)
  else s

/-- The fuel-wait deadline of a PENDING changeover (R90). -/
def fuelWaitEnds (bus : Nat) (s : State) : State :=
  if (s.busRec bus).state = .pending ∧ reached (s.busRec bus).fuelWait s.clock then
    conclude (abortBack bus .fuelWaitTimeout s)
  else s

/-- The phase deadline of a bus. -/
def phaseEnds (bus : Nat) (s : State) : State :=
  if reached (s.busRec bus).phase s.clock then phaseExpires bus s else s

/-- WARM_UP_DEADLINE (R90). -/
def execWarmUpDeadline (bus : Nat) (s : State) : Host.Outcome State Fault Refusal :=
  .next (unlessHeld (warmUpEnds bus) s)

/-- FUEL_WAIT_DEADLINE (R90). -/
def execFuelWaitDeadline (bus : Nat) (s : State) : Host.Outcome State Fault Refusal :=
  .next (unlessHeld (fuelWaitEnds bus) s)

/-- PHASE_DEADLINE (R93 to R98). -/
def execPhaseDeadline (bus : Nat) (s : State) : Host.Outcome State Fault Refusal :=
  .next (unlessHeld (phaseEnds bus) s)

end Sys2Proof.Machine
end

