-- ==== Sys2Proof/Machine/Roster.lean ====
section
/-! DEFINITION. The Roster Unit's operating states (01, R11 to R19): reports, the outcomes of START, COOL and
STOP, silence, hire and run minutes, and the cool-down deadline. -/

namespace Sys2Proof.Machine

/-! ## Changes of op state (R12) -/

/-- Write a new op state; leaving COOLING drops the cool-down deadline (R11, R14). -/
def SetRec.enter (op : OpState) (r : SetRec) : SetRec :=
  { r with op, coolDeadline := if r.op = .cooling ∧ op ≠ .cooling then none else r.coolDeadline }

/-- SET_FAULT when the new op state is FAULT (R12). -/
def raiseIfFault (set : Nat) (op : OpState) (s : State) : State :=
  if op = .fault then raise .setFault .sets set none s else s

/-- A change of op state is written and handed on: to the Fuel Estimator, to the Transfer Controller, and
SET_FAULT is raised (R12). An unchanged state hands nothing on. -/
def changeOp (set : Nat) (op : OpState) (s : State) : State :=
  let r := s.setRec set
  if r.op = op then s
  else
    raiseIfFault set op
      (transferSees set r.op (recomputeSupply r.tank (s.updSet set (SetRec.enter op))))

/-! ## Reports (R11) -/

/-- The op state after a report (R11). -/
def reportedOp (now reported : OpState) : OpState :=
  match reported with
  | .running | .stopped | .fault => reported
  | .starting | .cooling => now

/-- The IN_USE or RETIRING set that a STATE matches: by source address and tag (R11). -/
def State.setReporting (s : State) (node tag : Nat) : Option Nat :=
  s.sets.numWhere (fun r => decide (r.node = node ∧ r.tag = tag))

/-- A STATE from a node, whether unprompted or a poll's reply (R11). -/
def takeState (node tag : Nat) (op : OpState) (s : State) : State :=
  match s.setReporting node tag with
  | none => s
  | some n =>
    changeOp n (reportedOp (s.setRec n).op op)
      (s.updSet n (fun r => { r with silent := false, silentCount := 0 }))

/-- A status poll without an answer: the silent count, the mark and SET_SILENT (R18). -/
def missedPoll (set : Nat) (s : State) : State :=
  let r := s.setRec set
  if r.silentCount < 2 then s.updSet set (fun t => { t with silentCount := r.silentCount + 1 })
  else if r.silentCount = 2 then
    raise .setSilent .sets set none
      (s.updSet set (fun t => { t with silentCount := 3, silent := true }))
  else s

/-! ## Outcomes of orders (R13 to R17) -/

/-- What an order came to. -/
inductive OrderOutcome where
  | accepted | refused | noAnswer
  deriving DecidableEq, Repr

/-- SET_NO_ANSWER for a missing answer (R13). -/
def raiseIfUnanswered (set : Nat) (o : OrderOutcome) (s : State) : State :=
  if o = .noAnswer then raise .setNoAnswer .sets set none s else s

/-- The set an order was sent to is still the one enrolled then (R10). -/
def State.sameSet (s : State) (set serial : Nat) : Bool :=
  (s.set? set).any (fun r => decide (r.serial = serial))

/-- A START is accepted (R14). -/
def startAccepted (set : Nat) (s : State) : State :=
  match (s.setRec set).op with
  | .cooling => changeOp set .running s
  | .stopped | .starting => changeOp set .starting s
  | .running | .fault => s

/-- A START sent to a COOLING set has failed: a set still COOLING gets a new deadline (R14). -/
def restoreCooling (set : Nat) (sentCooling : Bool) (s : State) : State :=
  if sentCooling && decide ((s.setRec set).op = .cooling) then
    s.updSet set (fun r => { r with coolDeadline := some (s.clock + r.coolDown) })
  else s

/-- The check of R86 made again when a START's outcome is taken. -/
def recheckMark (set : Nat) (s : State) : State :=
  let r := s.setRec set
  if r.startedByCh && r.chBus.isNone && decide (r.supplies = 0) then orderByMark set s else s

/-- A START no longer awaits its outcome. -/
def clearStart (set frame : Nat) (s : State) : State :=
  s.updSet set (fun r => if r.startFrame = some frame then { r with startFrame := none } else r)

/-- The outcome of a START sent for a changeover (R14, R90, R86); for a set made FREE, or enrolled anew, since the
sending it is dropped, a missing answer too (log 62). -/
def startOutcome (set serial frame : Nat) (sentCooling : Bool) (o : OrderOutcome) (s : State) : State :=
  if s.sameSet set serial then
    let s1 := clearStart set frame s
    let s2 := match o with
      | .accepted => startAccepted set s1
      | .refused => pendingStartFails set frame .incomingFault (restoreCooling set sentCooling s1)
      | .noAnswer =>
        pendingStartFails set frame .noAnswer
          (restoreCooling set sentCooling (raise .setNoAnswer .sets set none s1))
    if (s.setRec set).startFrame = some frame then recheckMark set s2 else s2
  else s

/-- A set whose cool-down could not be cancelled is COOLING after all, when it still stands in RUNNING (R17;
log 19). -/
def coolAfterAll (set : Nat) (o : OrderOutcome) (s : State) : State :=
  if (s.setRec set).op = .running then
    changeOp set .cooling (raiseIfUnanswered set o (s.updSet set (fun r =>
      { r with coolDeadline := some (s.clock + r.coolDown) })))
  else raiseIfUnanswered set o s

/-- The outcome of the START that cancels a cool-down (R17); dropped for a set made FREE since (log 62). -/
def startCancelOutcome (set serial : Nat) (o : OrderOutcome) (s : State) : State :=
  if s.sameSet set serial then
    match o with
    | .accepted => startAccepted set s
    | .refused | .noAnswer => coolAfterAll set o s
  else s

/-- A COOL is accepted (R15), or overtaken (R17). -/
def coolAccepted (set : Nat) (s : State) : State :=
  let r := s.setRec set
  if r.op = .running then
    if r.supplies = 0 ∧ r.chBus = none then
      changeOp set .cooling (s.updSet set (fun t =>
        { t with coolDeadline := some (s.clock + t.coolDown) }))
    else sendStartCancel set s
  else s

/-- The outcome of a COOL (R15, R16, R17); dropped for a set made FREE since (log 62). -/
def coolOutcome (set serial : Nat) (o : OrderOutcome) (s : State) : State :=
  if s.sameSet set serial then
    match o with
    | .accepted => coolAccepted set s
    | .refused | .noAnswer => raiseIfUnanswered set o s
  else s

/-- The outcome of a STOP (R14, R15); dropped for a set made FREE since (log 62). -/
def stopOutcome (set serial : Nat) (o : OrderOutcome) (s : State) : State :=
  if s.sameSet set serial then
    match o with
    | .accepted => if (s.setRec set).op.burns then changeOp set .stopped s else s
    | .refused | .noAnswer => raiseIfUnanswered set o s
  else s

/-! ## Minutes and the cool-down deadline -/

/-- Minutes are counted on a set: hire minutes, and run minutes in STARTING, RUNNING and COOLING (R19). -/
def SetRec.addMinutes (k : Nat) (r : SetRec) : SetRec :=
  { r with hireMin := r.hireMin + k, runMin := if r.op.burns then r.runMin + k else r.runMin }

/-- Every IN_USE and RETIRING set counts minutes (R19). -/
def countMinutes (k : Nat) (s : State) : State := s.onSets (fun t => t.updAll (SetRec.addMinutes k))

/-- The cool-down deadline expires: it is dropped and STOP is sent (R15). -/
def coolDownEnds (set : Nat) (s : State) : State :=
  if reached (s.setRec set).coolDeadline s.clock then
    sendStop set (s.updSet set (fun r => { r with coolDeadline := none }))
  else s

/-- COOL_DOWN_DEADLINE (R15). -/
def execCoolDownDeadline (set : Nat) (s : State) : Host.Outcome State Fault Refusal :=
  .next (unlessHeld (coolDownEnds set) s)

end Sys2Proof.Machine
end

