-- ==== Sys2Proof/Machine/Billing.lean ====
section
/-! DEFINITION. The performed close of a billing period (07, R149, R152 to R157, R143; R10, R52, R77). -/

namespace Sys2Proof.Machine

/-! ## Apportioning fuel (R153, R154) -/

/-- A share of a set's fuel: the account and the Wh it stands for. -/
structure Quota where
  account : Nat
  wh : Nat
  deriving DecidableEq, Repr

/-- The quotas of a set: its draw list in order, and the pooled Wh, for account 1, after every entry. -/
def SetRec.quotas (r : SetRec) : List Quota :=
  r.draws.map (fun d => { account := d.1, wh := d.2 })
    ++ (if 0 < r.pooled then [{ account := 1, wh := r.pooled }] else [])

/-- E_s: the Wh of the draw list entries and the pooled Wh. -/
def SetRec.drawnWh (r : SetRec) : Nat := (r.draws.map Prod.snd).sum + r.pooled

/-- The quotas before position `k` (and their own) that come ahead of remainder `rem` in the order of R154. -/
def aheadOf (rems : List Nat) (k rem : Nat) : Nat :=
  (rems.zipIdx).countP (fun e => decide (rem < e.1 ∨ (e.1 = rem ∧ e.2 < k)))

/-- The final quotas of a set with fuel `f` above 0: floors, and one ml more to each of the quotas with the
largest remainders, the entry nearer the head first among equals (R153, R154). -/
def shareFuel (f total : Nat) (qs : List Quota) : List (Nat × Nat) :=
  let floors := qs.map (fun q => f * q.wh / total)
  let rems := qs.map (fun q => f * q.wh % total)
  let left := f - floors.sum
  (qs.zipIdx).map (fun e =>
    let rem := (rems[e.2]?).getD 0
    (e.1.account, (floors[e.2]?).getD 0 + (if aheadOf rems e.2 rem < left then 1 else 0)))

/-- What a set's fuel adds to each account (R153). -/
def SetRec.apportioned (r : SetRec) : List (Nat × Nat) :=
  if r.periodBurnt = 0 then []
  else if r.drawnWh = 0 then [(1, r.periodBurnt)]
  else shareFuel r.periodBurnt r.drawnWh r.quotas

/-- Add fuel to an account's period fuel. -/
def addFuel (p : Nat × Nat) (s : State) : State :=
  s.updAccount p.1 (fun a => { a with periodFuel := a.periodFuel + p.2 })

/-- Step 1 of the close: every set's fuel, in ascending set number (R152, R153). -/
def apportionAll (s : State) : State :=
  forEach s.sets.nums (fun n t => forEach (t.setRec n).apportioned addFuel t) s

/-! ## Statements (R155, R156) -/

/-- The charge in whole cents, half a cent rounded up (R156). -/
def charge (wh energyRate ml fuelRate : Nat) : Nat := (wh * energyRate + ml * fuelRate + 50000) / 100000

/-- The account holds a statement that has not been collected. -/
def AccountRec.uncollected (a : AccountRec) : Bool := a.statement.any (fun t => !t.collected)

/-- The account is billed at a close: OPEN or RETIRING with its drawn mark set, and account 1 always. -/
def AccountRec.billed (n : Nat) (a : AccountRec) : Bool :=
  decide (n = 1) || (a.drawn && decide (a.status = .opened ∨ a.status = .retiring))

/-- The statement of a close (R155). -/
def AccountRec.billFor (period start now : Nat) (a : AccountRec) : AccountRec :=
  let t : Statement :=
    { period
      startTime := start
      endTime := now
      energy := a.periodWh
      fuel := a.periodFuel
      charge := charge a.periodWh a.energyRate a.periodFuel a.fuelRate
      collected := false
      overwritten := a.uncollected }
  { a with statement := some t }

/-- Step 2: a statement for each account billed. -/
def writeStatements (s : State) : State :=
  s.onAccounts (fun t => t.map (fun e =>
    (e.1, if e.2.billed e.1 then e.2.billFor s.site.periodNumber s.site.periodStart s.clock else e.2)))

/-! ## Zeroing and release (R157, R143) -/

/-- A set's period counts. -/
def SetRec.zeroPeriod (r : SetRec) : SetRec :=
  { r with periodEnergy := 0, periodBurnt := 0, draws := [], pooled := 0 }

/-- An account's period counts. -/
def AccountRec.zeroPeriod (a : AccountRec) : AccountRec :=
  { a with periodWh := 0, periodFuel := 0, drawn := false }

/-- Step 3: the period counts are zeroed. -/
def zeroPeriod (s : State) : State :=
  ((s.onSets (fun t => t.updAll SetRec.zeroPeriod)).onAccounts
    (fun t => t.updAll AccountRec.zeroPeriod)).onSite (fun p => { p with unsourced := 0 })

/-- A bus's positions that hold a freed set become vacant (R52). -/
def BusRec.vacate (set : Nat) (b : BusRec) : BusRec :=
  { b with inputs := b.inputs.map (fun x => if x = some set then none else x) }

/-- The set-before of points that name a freed set becomes absent (R77). -/
def FeederRec.forget (set : Nat) (r : FeederRec) : FeederRec :=
  { r with points := r.points.map (fun p =>
      if p.setBefore = some set then { p with setBefore := none } else p) }

/-- A set leaves a tank's supplied sets. -/
def leaveTank (tank : Option Nat) (s : State) : State :=
  match tank with
  | some t => s.updTank t (fun r => { r with suppliedSets := r.suppliedSets - 1 })
  | none => s

/-- A RETIRING set record becomes FREE (R10, R52, R77). -/
def freeSet (set : Nat) (s : State) : State :=
  let tank := (s.setRec set).tank
  let s1 := recomputeSupply tank (leaveTank tank (s.onSets (fun t => t.del set)))
  (s1.onBuses (fun t => t.updAll (BusRec.vacate set))).onFeeders
    (fun t => t.updAll (FeederRec.forget set))

/-- The numbers of the RETIRING sets. -/
def State.retiringSets (s : State) : List Nat :=
  Tbl.nums (s.sets.filter (fun e => e.2.status = .retiring))

/-- A RETIRING account leaves RETIRING: CLOSED_OUT with its statement uncollected, else FREE (R143). -/
def releaseAccounts (t : Tbl AccountRec) : Tbl AccountRec :=
  Tbl.updAll (t.filter (fun e => decide (e.2.status ≠ .retiring) || e.2.uncollected))
    (fun a => if a.status = .retiring then { a with status := .closedOut } else a)

/-- The period number after `n`: 65,535 is followed by 1. -/
def nextPeriod (n : Nat) : Nat := if n = 65535 then 1 else n + 1

/-- Steps 5 and 6: the period advances and the close state becomes OPEN; PERIOD_CLOSED carries the number of
the period closed (R152). -/
def advancePeriod (s : State) : State :=
  raise .periodClosed .site 1 (some s.site.periodNumber)
    (s.onSite (fun p =>
      { p with
        periodNumber := nextPeriod p.periodNumber
        periodStart := s.clock
        closeState := .opened }))

/-- The performed close (R152). -/
def performClose (s : State) : State :=
  let s1 := zeroPeriod (writeStatements (apportionAll s))
  let s2 := forEach s1.retiringSets freeSet s1
  advancePeriod (s2.onAccounts releaseAccounts)

/-! ## The hold (R149, R150) -/

/-- How many accounts hold an uncollected statement. -/
def State.uncollected (s : State) : Nat := s.accounts.countP (fun e => e.2.uncollected)

/-- The end of the closing pass (R149). -/
def closingPassEnd (s : State) : State :=
  if s.site.closeState = .closingPass then
    if s.site.holdOption ∧ 0 < s.uncollected then
      raise .closeHeld .site 1 (some s.uncollected)
        (s.onSite (fun p => { p with closeState := .held }))
    else performClose s
  else s

/-- A HELD close is performed once the hold no longer applies (R150). -/
def releaseHold (s : State) : State :=
  if s.site.closeState = .held ∧ ¬ (s.site.holdOption ∧ 0 < s.uncollected) then performClose s else s

end Sys2Proof.Machine
end

