-- ==== Sys2Proof/Machine/Metering.lean ====
section
/-! DEFINITION. The Meter Scanner (04): passes and their polls, the reading of a feeder, the splitting and
crediting of energy, and the closing pass (R62 to R74, R78, R79; R148). -/

namespace Sys2Proof.Machine

/-! ## Reading a feeder (R69 to R73, R78, R79) -/

/-- The delta of a read, modulo the meter's register (R70). -/
def meterDelta (reference reading : Nat) : Nat :=
  (reading + Config.meterModulus - reference) % Config.meterModulus

/-- The plausibility limit in Wh (R71). -/
def plausible (rating dt : Nat) : Nat := rating * dt * 1250 / 3600

/-- The segments of an interval cut at the switch points, each with its set-before and its seconds (R78). -/
def segments (start : Nat) : List SwitchPoint → List (Option Nat × Nat)
  | [] => []
  | p :: ps => (p.setBefore, p.time - start) :: segments p.time ps

/-- The shares of a delta, oldest first; the last segment takes what the floors leave (R78). -/
def sharesOf (delta dt start : Nat) (points : List SwitchPoint) (supplier : Option Nat) :
    List (Option Nat × Nat) :=
  let parts := (segments start points).map (fun g => (g.1, delta * g.2 / dt))
  parts ++ [(supplier, delta - (parts.map Prod.snd).sum)]

/-- The draw list of a set with an account's part added where it is listed. -/
def addDraw (account wh : Nat) (ds : List (Nat × Nat)) : List (Nat × Nat) :=
  ds.map (fun d => if d.1 = account then (d.1, d.2 + wh) else d)

/-- Steps 2 and 3 of a credit on the set record (R79). -/
def SetRec.credit (account wh : Nat) (r : SetRec) : SetRec :=
  let r1 := { r with energy := r.energy + wh, periodEnergy := r.periodEnergy + wh }
  if r.draws.any (fun d => decide (d.1 = account)) then { r1 with draws := addDraw account wh r.draws }
  else if r.draws.length < Config.drawList then { r1 with draws := r.draws ++ [(account, wh)] }
  else { r1 with pooled := r.pooled + wh }

/-- The part does not fit a set's draw list (R79). -/
def SetRec.pools (account : Nat) (r : SetRec) : Bool :=
  !r.draws.any (fun d => decide (d.1 = account)) && decide (Config.drawList ≤ r.draws.length)

/-- Credit one part of a read to the feeder's account and to the set, or to unsourced Wh (R79). -/
def creditPart (account : Nat) (part : Option Nat × Nat) (s : State) : State :=
  let wh := part.2
  if wh = 0 then s
  else
    let s1 := s.updAccount account (fun a => { a with periodWh := a.periodWh + wh, drawn := true })
    match part.1 with
    | none => s1.onSite (fun p => { p with unsourced := p.unsourced + wh })
    | some i =>
      let s2 := s1.updSet i (SetRec.credit account wh)
      if (s.setRec i).pools account then raise .drawPooled .sets i (some account) s2 else s2

/-- The feeder fields a read with Δt above 0 writes (R73). -/
def FeederRec.afterRead (reading now delta dt : Nat) (r : FeederRec) : FeederRec :=
  { r with
    refReading := reading
    refTime := now
    lastDelta := delta
    lastAvgW := delta * 3600 / dt
    points := []
    unread := false
    boundary := false }

/-- A delta above the limit sets the suspect mark and raises METER_SUSPECT with the delta before clamping
(R71). -/
def markSuspect (n delta limit : Nat) (s : State) : State :=
  if limit < delta then
    raise .meterSuspect .feeders n (some delta) (s.updFeeder n (fun r => { r with suspect := true }))
  else s

/-- A READING is applied to the feeder its read was sent for (R69). -/
def applyRead (n reading : Nat) (s : State) : State :=
  let r := s.feederRec n
  let dt := s.clock - r.refTime
  if dt = 0 then s.updFeeder n (fun t => { t with unread := false, boundary := false })
  else
    let delta := meterDelta r.refReading reading
    let limit := plausible r.rating dt
    let used := min delta limit
    let shares := sharesOf used dt r.refTime r.points (s.busRec r.bus).supplying
    (forEach shares (creditPart r.account) (markSuspect n delta limit s)).updFeeder n
      (FeederRec.afterRead reading s.clock used dt)

/-! ## Offering polls (R66, R67) -/

/-- One more poll is outstanding. -/
def countPoll (s : State) : State := s.onPass (fun p => { p with outstanding := p.outstanding + 1 })

/-- The poll of a feeder: a read in flight serves, a boundary read made stale by a RESEAT_FEEDER too (log 67), else
READ_METER is offered; unqueued, the feeder is unread (R66, R67, R72). -/
def pollFeeder (n : Nat) (s : State) : State :=
  match (s.feederRec n).inFlight with
  | some f => countPoll (s.updFeeder n (fun r => { r with inFlight := some { f with servesPass := true } }))
  | none =>
    match offerQuery (s.feederRec n).meter Kind.readMeter (.readMeter n) false s with
    | (s1, some id) => countPoll (s1.updFeeder n (FeederRec.reading id false true))
    | (s1, none) => s1.updFeeder n (fun r => { r with unread := true })

/-- The poll of an IN_USE set: ASK_STATE; unqueued, a missed poll (R18, R66). -/
def pollSet (n : Nat) (s : State) : State :=
  let r := s.setRec n
  if r.status = .inUse then
    match offerQuery r.node Kind.askState (.askState n r.serial) false s with
    | (s1, some _) => countPoll s1
    | (s1, none) => missedPoll n s1
  else s

def offerPoll (p : Poll) (s : State) : State :=
  match p with
  | .feeder n => pollFeeder n s
  | .set n => pollSet n s

/-- Polls are offered from the head of the list while fewer than 4 are outstanding (R66). -/
def offerFrom : List Poll → State → State
  | [], s => s.onPass (fun p => { p with polls := [] })
  | q :: qs, s =>
    if s.pass.outstanding < Config.pollsOffered then offerFrom qs (offerPoll q s)
    else s.onPass (fun p => { p with polls := q :: qs })

/-! ## The pass end (R68) -/

/-- The pass end: estimates, PENDING changeovers, ASK_INPUTS again, the end of a closing pass, and IDLE. -/
def passEnd (s : State) : State :=
  let s1 := resendAsks (evaluateAllPending (estimateAll s))
  let s2 := if s1.pass.closing then closingPassEnd s1 else s1
  s2.onPass (fun p => { p with state := .idle, startTime := none, closing := false })

/-- Offer the next polls, and end the pass when its list is empty and nothing is outstanding. -/
def advancePass (s : State) : State :=
  let s1 := offerFrom s.pass.polls s
  if s1.pass.polls.isEmpty && decide (s1.pass.outstanding = 0) then passEnd s1 else s1

/-- The outcome of an outstanding poll is taken, after what it does at its block (R66; the order, log 84). -/
def pollTaken (s : State) : State :=
  if s.pass.state = .running then
    advancePass (s.onPass (fun p => { p with outstanding := p.outstanding - 1 }))
  else s

/-! ## Starting a pass (R62 to R65) -/

/-- The poll list: IN_USE feeders and then IN_USE sets, ascending (R65). -/
def State.pollList (s : State) : List Poll :=
  s.feeders.nums.map Poll.feeder
    ++ (Tbl.nums (s.sets.filter (fun e => e.2.status = .inUse))).map Poll.set

/-- A pass starts (R65). -/
def startPass (closing : Bool) (s : State) : State :=
  advancePass (s.onPass (fun p =>
    { p with
      state := .running
      startTime := some s.clock
      closing
      polls := s.pollList
      outstanding := 0 }))

/-- The scan deadline is set to now plus the scan interval. -/
def setScan (s : State) : State :=
  s.onPass (fun p => { p with scanDeadline := some (s.clock + s.site.scanInterval) })

/-- The Billing Unit asks for a closing pass (R64). -/
def requestClosingPass (s : State) : State :=
  match s.pass.state with
  | .idle => startPass true (setScan s)
  | .running => s.onPass (fun p => { p with closing := true })

/-- A close becomes DUE: CLOSING_PASS, and its closing pass is asked for (R148). -/
def closeDue (s : State) : State :=
  requestClosingPass (s.onSite (fun p => { p with closeState := .closingPass }))

/-- The scan deadline expires (R62). -/
def scanEnds (s : State) : State :=
  if reached s.pass.scanDeadline s.clock then
    match s.pass.state with
    | .idle => startPass false (setScan s)
    | .running =>
      setScan (raise .passOverrun .site 1 (some (s.clock - s.pass.startTime.getD 0)) s)
  else s

/-- SCAN_DEADLINE (R62). -/
def execScanDeadline (s : State) : Host.Outcome State Fault Refusal := .next (unlessHeld scanEnds s)

/-! ## Outcomes of reads and polls -/

/-- A read without an answer: the unread mark; a boundary read's mark is cleared, and a pass read that was to
serve as one leaves it set and a boundary read is offered at once (R72, R80). A mark that RESEAT_FEEDER has
cleared since is not set again, and no boundary read is offered for it (R74). A pass read that was not to serve
as a boundary read leaves the mark of an unqueued one as it is, and offers none (log 59). -/
def readUnanswered (n : Nat) (f : FeederRead) (s : State) : State :=
  let wanted := (s.feederRec n).boundary && f.servesBoundary && !f.boundary
  let s1 := s.updFeeder n (fun r =>
    { r with unread := true, boundary := r.boundary && !f.boundary })
  if wanted then askBoundary n s1 else s1

/-- What a read's reply, or its absence, does to the feeder; the reply of a read overtaken by RESEAT_FEEDER is
discarded (R69, R72, R74). A boundary-wanted mark set since that RESEAT_FEEDER then stays set, and no boundary read is
offered for it (log 77). -/
def readTaken (n : Nat) (f : FeederRead) (reading : Option Nat) (s : State) : State :=
  match reading with
  | some v => if f.stale then s else applyRead n v s
  | none => readUnanswered n f s

/-- The outcome of a READ_METER: it is the feeder's when the feeder still holds that read in flight (R60,
R69). -/
def readOutcome (n frame : Nat) (reading : Option Nat) (s : State) : State :=
  match (s.feederRec n).inFlight with
  | none => s
  | some f =>
    if f.frame = frame then
      let s1 := readTaken n f reading (s.updFeeder n (fun r => { r with inFlight := none }))
      if f.servesPass then pollTaken s1 else s1
    else s

/-- An ASK_STATE without an answer (R18, R66). -/
def askStateUnanswered (set serial : Nat) (s : State) : State :=
  pollTaken (if s.sameSet set serial then missedPoll set s else s)

/-! ## Requests on feeders after their checks -/

/-- An accepted RESEAT_FEEDER (R74). -/
def reseatFeeder (n count : Nat) (s : State) : State :=
  s.updFeeder n (fun r =>
    { r with
      refReading := count
      refTime := s.clock
      points := []
      suspect := false
      unread := false
      estimated := false
      boundary := false
      inFlight := r.inFlight.map (fun f => { f with stale := true }) })

/-- What an accepted RETIRE of a feeder does to the running pass: its entry leaves the list, or its
outstanding read is taken as ended (R60, R67). -/
def dropFeederPoll (n : Nat) (read : Option FeederRead) (s : State) : State :=
  let s1 := s.onPass (fun p => { p with polls := p.polls.filter (fun q => q ≠ .feeder n) })
  if read.any FeederRead.servesPass then pollTaken s1 else s1

/-- A set that becomes RETIRING leaves the poll list unpolled (R67). -/
def dropSetPoll (n : Nat) (s : State) : State :=
  s.onPass (fun p => { p with polls := p.polls.filter (fun q => q ≠ .set n) })

/-! ## The minute tick (R19, R145) -/

/-- The period minute count rises and may match; a match in OPEN makes the close DUE (R145, R148). -/
def addPeriodMinutes (k : Nat) (s : State) : State :=
  let count := s.site.minuteCount + k
  if s.site.periodLength ≤ count then
    let s1 := s.onSite (fun p => { p with minuteCount := 0 })
    if s.site.closeState = .opened then closeDue s1 else s1
  else s.onSite (fun p => { p with minuteCount := count })

/-- One minute tick, while one is waiting to be taken: the sets' minutes, then the period's (log 25). -/
def minuteTick (s : State) : State :=
  if s.minutesTaken < s.clock / 60 then
    addPeriodMinutes 1 (countMinutes 1 (s.setMinutesTaken (s.minutesTaken + 1)))
  else s

/-- MINUTE_TICK (R145, R19). -/
def execMinuteTick (s : State) : Host.Outcome State Fault Refusal := .next (unlessHeld minuteTick s)

end Sys2Proof.Machine
end

