-- ==== Sys2Proof/Machine/Outcomes.lean ====
section
/-! DEFINITION. What a reply or its absence does at the block that offered the frame (09, R183 to R185), and the
commands of the sending side of the line: SEND_FRAME, SEND_HOLD_ANSWER, SEND_HOLD_EXPIRY, REPLY_DEADLINE. -/

namespace Sys2Proof.Machine

/-! ## Outcomes at the offering blocks -/

/-- The no-answer outcome of frame `frame`, at the block its purpose names (R184). -/
def noAnswerFor (frame : Nat) (p : Purpose) (s : State) : State :=
  match p with
  | .nothing => s
  | .start set serial cooling => startOutcome set serial frame cooling .noAnswer s
  | .startCancel set serial => startCancelOutcome set serial .noAnswer s
  | .cool set serial => coolOutcome set serial .noAnswer s
  | .stop set serial => stopOutcome set serial .noAnswer s
  | .sync bus _ _ => syncFails bus frame .noAnswer s
  | .panel bus => if (s.busRec bus).awaited = some frame then panelUnanswered bus s else s
  | .askInputs bus => askAnswered bus frame s
  | .readMeter feeder => readOutcome feeder frame none s
  | .askState set serial => askStateUnanswered set serial s
  | .askLevel _ _ => s
  | .fill ctx serial nom => fillOutcome ctx serial nom none s
  | .valveShut ctx serial => valveShutOutcome ctx serial none s
  | .valveOpen ctx serial nom => valveOpenOutcome ctx serial nom false s

/-- An order to a set controller was accepted or refused. -/
def orderOutcome (accepted : Bool) : OrderOutcome := if accepted then .accepted else .refused

/-- A RESULT that closed the exchange of a frame (R13, R93, R121, R126). -/
def resultFor (frame : Nat) (p : Purpose) (accepted : Bool) (meter : Option Nat) (s : State) : State :=
  match p with
  | .start set serial cooling => startOutcome set serial frame cooling (orderOutcome accepted) s
  | .startCancel set serial => startCancelOutcome set serial (orderOutcome accepted) s
  | .cool set serial => coolOutcome set serial (orderOutcome accepted) s
  | .stop set serial => stopOutcome set serial (orderOutcome accepted) s
  | .sync bus _ _ => if accepted then s else syncFails bus frame .incomingFault s
  | .fill ctx serial nom => fillOutcome ctx serial nom (if accepted then meter else none) s
  | .valveOpen ctx serial nom => valveOpenOutcome ctx serial nom accepted s
  | .nothing | .panel _ | .askInputs _ | .readMeter _ | .askState _ _ | .askLevel _ _
  | .valveShut _ _ => s

/-! ## Sending (R179, R182, R183, R189) -/

/-- A frame left unacknowledged or refused: for an ORDER or QUERY its block is given no answer, a REPLY is
dropped (R183). -/
def frameUnanswered (f : OutFrame) (s : State) : State :=
  let s1 := s.onLine (Line.leave f)
  match f.cls with
  | .order | .query => noAnswerFor f.id f.purpose s1
  | .reply | .alert => s1

/-- A frame is acknowledged: it leaves the queue, and an ORDER or QUERY opens an exchange (R183, R184). -/
def frameAcknowledged (f : OutFrame) (s : State) : State :=
  s.onLine (fun l => Line.openExchange f (Line.leave f l))

/-- What the destination drives in the acknowledgement slot (R183). -/
def takeAnswer (f : OutFrame) (answer : AckAnswer) (s : State) : State :=
  match answer with
  | .ack => frameAcknowledged f s
  | .hold => s.onLine (fun l => { l with txHold := some f.id })
  | .refuse | .nothing => frameUnanswered f s

/-- A frame that has won the line is driven whole; an all-call leaves the queue with its slot empty (R189). -/
def driveFrame (f : OutFrame) (answer : AckAnswer) (s : State) : State :=
  let s1 := s.onLine (fun l => { l with sent := f.bytes })
  if f.dest = 0 then s1.onLine (Line.leave f) else takeAnswer f answer s1

/-- On an idle line the part offers the first frame that may be sent; one that loses arbitration stays in its
place (R179, R182). -/
def sendFrame (contenders : List (Nat × Nat)) (answer : AckAnswer) (s : State) : State :=
  if s.line.idle then
    match s.line.nextToSend with
    | none => s
    | some f => if winsLine f.cls contenders then driveFrame f answer s else s
  else s

/-- SEND_FRAME (R182). -/
def execSendFrame (contenders : List (Nat × Nat)) (answer : AckAnswer) (s : State) :
    Host.Outcome State Fault Refusal :=
  .next (unlessHeld (sendFrame contenders answer) s)

/-- The hold of the frame being sent ends, with an acknowledgement or without one (R183). -/
def endSendHold (acknowledged : Bool) (s : State) : State :=
  match s.line.txHold with
  | none => s
  | some id =>
    let s1 := s.onLine (fun l => { l with txHold := none })
    match s.line.queue.find? (fun f => f.id = id) with
    | none => s1
    | some f => if acknowledged then frameAcknowledged f s1 else frameUnanswered f s1

/-- SEND_HOLD_ANSWER (R183). -/
def execSendHoldAnswer (accepted : Bool) (s : State) : Host.Outcome State Fault Refusal :=
  .next (unlessHeld (endSendHold accepted) s)

/-- SEND_HOLD_EXPIRY: a hold that ends with neither answer is taken as nothing (R183). -/
def execSendHoldExpiry (s : State) : Host.Outcome State Fault Refusal :=
  .next (unlessHeld (endSendHold false) s)

/-- The reply deadline of the exchange open with a node expires (R184). -/
def replyDeadlineEnds (node : Nat) (s : State) : State :=
  match s.line.exchangeWith node with
  | none => s
  | some e => noAnswerFor e.id e.purpose (s.onLine (Line.closeExchange node))

/-- REPLY_DEADLINE (R184). -/
def execReplyDeadline (node : Nat) (s : State) : Host.Outcome State Fault Refusal :=
  .next (unlessHeld (replyDeadlineEnds node) s)

end Sys2Proof.Machine
end

