-- ==== Sys2Proof/Machine/Reports.lean ====
section
/-! DEFINITION. Dispatch of the inbound slots (09, R185, R187; 08, R169): STATE, SYNC_OK, INPUTS, LEVEL, READING,
BOWSER_METER, HOSE_DONE, RESULT, the VALVE_SHUT reply, and frames of a kind the part does not know. -/

namespace Sys2Proof.Machine

/-! ## The common part -/

/-- A source the Rights Checker knows: an IN_USE node other than the part itself (R169). -/
def State.knownNode (s : State) (a : Nat) : Bool :=
  decide (a ≠ Config.ownAddress) && (s.node? a).isSome

/-- The exchange a dispatched frame closed has had no answer, if it closed one (R185). -/
def closedUnanswered (closes : Option Exchange) (s : State) : State :=
  match closes with
  | some e => noAnswerFor e.id e.purpose s
  | none => s

/-- A message from an unknown source is discarded with UNKNOWN_NODE (R169); an exchange it closed ends
without an answer (log 17), and what that raises comes before UNKNOWN_NODE (log 82). -/
def discardUnknown (t : Slot) (s : State) : State :=
  raise .unknownNode .nodes t.frame.source none (closedUnanswered t.closes s)

/-- Dispatch slot `n` when its frame says what this command takes: the slot is freed, and a frame from a known
node is acted on. Where no such frame waits, nothing changes (log 3). -/
def dispatchSlot (n : Nat) (mine : Message → Bool) (act : Slot → Message → State → State) (s : State) :
    State :=
  match s.line.dispatchable n with
  | none => s
  | some t =>
    let m := t.frame.message t.closes
    if mine m then
      let s1 := s.onLine (Line.freeAt n)
      if s1.knownNode t.frame.source then act t m s1 else discardUnknown t s1
    else s

/-- The exchange a frame closed, when its kind can answer the frame sent (R185). -/
def Slot.answers (t : Slot) : Option Exchange := t.closes.filter (fun e => t.frame.kind = replyKind e.kind)

/-- A reply of the wrong kind closes its exchange without an answer, and is then dispatched as one that closes
nothing (R185). -/
def wrongKind (t : Slot) (s : State) : State :=
  if t.answers.isNone then closedUnanswered t.closes s else s

/-! ## The kinds -/

/-- A STATE: applied as a report, and when it answers a status poll, the poll is taken (R11, R66). -/
def dispatchState (t : Slot) (m : Message) (s : State) : State :=
  match m with
  | .state tag op =>
    let s1 := takeState t.frame.source tag op (wrongKind t s)
    if t.answers.isSome then pollTaken s1 else s1
  | _ => s

/-- A SYNC_OK (R93); as a REPLY it answers no order. -/
def dispatchSyncOk (t : Slot) (m : Message) (s : State) : State :=
  match m with
  | .syncOk => takeSyncOk t.frame.source (wrongKind t s)
  | _ => s

/-- The ASK_INPUTS an INPUTS closes has had its outcome (R110). -/
def noteAsk (closes : Option Exchange) (s : State) : State :=
  match closes with
  | some { id, purpose := .askInputs bus, .. } => askAnswered bus id s
  | _ => s

/-- An INPUTS (R92, R109). -/
def dispatchInputs (t : Slot) (m : Message) (s : State) : State :=
  match m with
  | .inputs closed => takeInputs t.frame.source t.answers closed (noteAsk t.answers (wrongKind t s))
  | _ => s

/-- The IN_USE tank whose gauge node is the source of a LEVEL (R35). -/
def State.gaugedBy (s : State) (source : Nat) : Option Nat :=
  s.tanks.numWhere (fun r => decide (r.gauge = some source))

/-- The tank a LEVEL is for: the one an ASK_LEVEL it answers was sent for, while that tank stands; otherwise the
one whose gauge node is its source (R24, R35, R37). -/
def levelTank (t : Slot) (s : State) : Option Nat :=
  match t.answers with
  | some { purpose := .askLevel tank serial, .. } =>
    if (s.tank? tank).any (fun r => decide (r.serial = serial)) then some tank
    else s.gaugedBy t.frame.source
  | _ => s.gaugedBy t.frame.source

/-- A LEVEL (R35). -/
def dispatchLevel (t : Slot) (m : Message) (s : State) : State :=
  match m with
  | .level ml =>
    let s1 := wrongKind t s
    match levelTank t s1 with
    | some n => gaugeReading n ml s1
    | none => s1
  | _ => s

/-- A READING: applied to the feeder its read was sent for, or discarded (R69, R185). -/
def dispatchReading (t : Slot) (m : Message) (s : State) : State :=
  match m with
  | .reading count =>
    match t.answers with
    | some { id, purpose := .readMeter feeder, .. } => readOutcome feeder id (some count) s
    | _ => wrongKind t s
  | _ => s

/-- A BOWSER_METER (R122). -/
def dispatchBowserMeter (t : Slot) (m : Message) (s : State) : State :=
  match m with
  | .bowserMeter ml => bowserReport t.frame.source ml s
  | _ => s

/-- A HOSE_DONE (R123). -/
def dispatchHoseDone (t : Slot) (m : Message) (s : State) : State :=
  match m with
  | .hoseDone ml => hoseReport t.frame.source ml s
  | _ => s

/-- A RESULT: the outcome of the order it answers, or discarded (R13, R185). -/
def dispatchResult (t : Slot) (m : Message) (s : State) : State :=
  match m with
  | .result accepted meter =>
    match t.answers with
    | some e => resultFor e.id e.purpose accepted meter s
    | none => wrongKind t s
  | _ => s

/-- A VALVE_SHUT reply: the outcome of the order it answers, or discarded (R129, R185). -/
def dispatchValveShut (t : Slot) (m : Message) (s : State) : State :=
  match m with
  | .valveShut accepted meter =>
    match t.answers with
    | some { purpose := .valveShut ctx serial, .. } =>
      valveShutOutcome ctx serial (if accepted then meter else none) s
    | _ => wrongKind t s
  | _ => s

/-- A frame of a kind the part does not know is discarded; a REPLY first closes its exchange without an answer
(R185, R187). -/
def dispatchUnknownKind (t : Slot) (_ : Message) (s : State) : State := closedUnanswered t.closes s

/-! ## The commands -/

/-- STATE (R11). -/
def execState (slot : Nat) (s : State) : Host.Outcome State Fault Refusal :=
  .next (dispatchSlot slot (fun m => match m with | .state _ _ => true | _ => false) dispatchState s)

/-- SYNC_OK (R93). -/
def execSyncOk (slot : Nat) (s : State) : Host.Outcome State Fault Refusal :=
  .next (dispatchSlot slot (fun m => match m with | .syncOk => true | _ => false) dispatchSyncOk s)

/-- INPUTS (R92). -/
def execInputs (slot : Nat) (s : State) : Host.Outcome State Fault Refusal :=
  .next (dispatchSlot slot (fun m => match m with | .inputs _ => true | _ => false) dispatchInputs s)

/-- LEVEL (R35). -/
def execLevel (slot : Nat) (s : State) : Host.Outcome State Fault Refusal :=
  .next (dispatchSlot slot (fun m => match m with | .level _ => true | _ => false) dispatchLevel s)

/-- READING (R69). -/
def execReading (slot : Nat) (s : State) : Host.Outcome State Fault Refusal :=
  .next (dispatchSlot slot (fun m => match m with | .reading _ => true | _ => false) dispatchReading s)

/-- BOWSER_METER (R122). -/
def execBowserMeter (slot : Nat) (s : State) : Host.Outcome State Fault Refusal :=
  .next (dispatchSlot slot (fun m => match m with | .bowserMeter _ => true | _ => false)
    dispatchBowserMeter s)

/-- HOSE_DONE (R123). -/
def execHoseDone (slot : Nat) (s : State) : Host.Outcome State Fault Refusal :=
  .next (dispatchSlot slot (fun m => match m with | .hoseDone _ => true | _ => false) dispatchHoseDone s)

/-- RESULT (R13). -/
def execResult (slot : Nat) (s : State) : Host.Outcome State Fault Refusal :=
  .next (dispatchSlot slot (fun m => match m with | .result _ _ => true | _ => false) dispatchResult s)

/-- VALVE_SHUT_REPLY (R129). -/
def execValveShutReply (slot : Nat) (s : State) : Host.Outcome State Fault Refusal :=
  .next (dispatchSlot slot (fun m => match m with | .valveShut _ _ => true | _ => false)
    dispatchValveShut s)

/-- UNKNOWN_KIND_FRAME (R187). -/
def execUnknownKindFrame (slot : Nat) (s : State) : Host.Outcome State Fault Refusal :=
  .next (dispatchSlot slot (fun m => match m with | .unknown => true | _ => false)
    dispatchUnknownKind s)

end Sys2Proof.Machine
end

