-- ==== Sys2Proof/Machine/Rights.lean ====
section
/-! DEFINITION. The Rights Checker (08): rings, access codes, governing records, and the order of checks of
R174, with the answer a request is given (R175, R188). -/

namespace Sys2Proof.Machine

/-! ## A request and its answer -/

/-- A request being checked: its source, its effective ring, and its frame. -/
structure Asked where
  party : Party
  ring : Nat
  req : Request
  deriving DecidableEq, Repr

/-- The field pairs of a request, by field id. -/
def Asked.params (a : Asked) : Fields := a.req.fields

/-- What a request came to: the state, the response, and whether a HELD close is then to be examined (R150:
"after the AMEND is answered", "after the statement has been returned"). -/
structure Answered where
  state : State
  response : Response
  release : Bool := false
  deriving DecidableEq, Repr

/-- A refused request writes nothing and carries no fields (R174, R175). -/
def refuse (a : Answer) (s : State) : Answered := { state := s, response := { answer := a } }

/-- An accepted request carries the fields of the record concerned, as they stand after the event (R175). -/
def accept (a : Answer) (t : TableId) (n : Nat) (s : State) : Answered :=
  { state := s, response := { answer := a, record := n, fields := (s.recordPairs t n).getD [] } }

/-- Answer with the outcome of an operation that may refuse. -/
def acceptOr (t : TableId) (n : Nat) (r : State × Answer) : Answered :=
  if r.2 = .done then accept .done t n r.1 else refuse r.2 r.1

/-! ## Rings (R170) -/

/-- The link ring: 0 for the control port, and a node's ring as its entry stands. -/
def State.linkRing (s : State) : Party → Nat
  | .port => 0
  | .node a => (s.nodeRec a).ring

/-- The effective ring: the weaker of link and claim; a claim other than 0, 1 or 3 has none. -/
def effectiveRing (link claimed : Nat) : Option Nat :=
  if claimed = 0 ∨ claimed = 1 ∨ claimed = 3 then some (max link claimed) else none

/-! ## Kinds and tables (R161) -/

/-- The table an operational request names (10, "Formats"). -/
def ReqKind.table : ReqKind → Option TableId
  | .changeover | .cancelChangeover | .confirmSupply => some .buses
  | .dipEntry | .openDelivery => some .tanks
  | .reseatFeeder => some .feeders
  | .startPass | .closePeriod => some .site
  | .nominate | .suspendDelivery | .resumeDelivery | .skipNomination | .abandonDelivery
  | .collectDocket => some .deliveries
  | .collectStatement => some .accounts
  | .lookup | .find | .enrol | .amend | .retire | .takeNotice => none

/-- A request kind applies to a table: the generic ones to every table, but FIND not to nodes and the site
(R163); TAKE_NOTICE to none (R197). -/
def ReqKind.appliesTo (k : ReqKind) (t : Option TableId) : Bool :=
  match k with
  | .lookup | .enrol | .amend | .retire => t.isSome
  | .find => t.any (fun x => decide (x ≠ .nodes ∧ x ≠ .site))
  | .takeNotice => t.isNone
  | _ => decide (t = k.table)

/-- Check 3: kind, table and selector matched; TAKE_NOTICE names table 0, and its selector is not read (R161,
R197; log 9). -/
def Request.matched (q : Request) (k : ReqKind) : Bool :=
  k.appliesTo (TableId.ofCode q.table)
    && (if k = .takeNotice then decide (q.table = 0)
        else decide (q.selector = if k = .find then 1 else 0))

/-- Check 4: requests that need ring 0, and those no ring may make (R164, R166, R173, R114). -/
def ringAdmits (k : ReqKind) (t : Option TableId) (ring : Nat) : Bool :=
  match k with
  | .enrol => decide (ring = 0 ∧ t ≠ some .deliveries ∧ t ≠ some .site)
  | .retire => decide (ring = 0 ∧ t ≠ some .deliveries)
  | .amend => decide (t ≠ some .deliveries)
  | .confirmSupply | .reseatFeeder | .startPass | .closePeriod => decide (ring = 0)
  | _ => true

/-! ## Resolution (R161) -/

/-- A number that names a record that is not FREE; the contexts and the site record always resolve. -/
def State.holds (s : State) (t : TableId) (n : Nat) : Bool :=
  match t with
  | .sets => (s.set? n).isSome
  | .tanks => (s.tank? n).isSome
  | .zones => (s.zone? n).isSome
  | .buses => (s.bus? n).isSome
  | .feeders => (s.feeder? n).isSome
  | .accounts => (s.account? n).isSome
  | .deliveries => decide (n = 1 ∨ n = 2)
  | .nodes => (s.node? n).isSome
  | .site => decide (n = 1)

/-! ## Access codes (R171, R172) -/

/-- What a request needs of a code. -/
inductive Need where
  | read | amend | request
  deriving DecidableEq, Repr

/-- The rights a code grants (R171). -/
def AccessCode.grants (c : AccessCode) : Need → Bool
  | .read => decide (c ≠ .none)
  | .amend => decide (c = .readAmend ∨ c = .full)
  | .request => decide (c = .readRequest ∨ c = .full)

/-- The code of a zone for a ring. -/
def ZoneRec.codeAt (z : ZoneRec) (ring : Nat) : AccessCode := if ring = 1 then z.code1 else z.code3

/-- The tank that governs a context: that of its first nomination (R115). -/
def Ctx.governor (c : Ctx) : Nat := (c.noms.head?.map Nomination.tank).getD 0

/-- The code that applies to a record at ring 1 or 3 (R172). -/
def State.codeOf (s : State) (t : TableId) (n ring : Nat) : AccessCode :=
  match t with
  | .sets => if ring = 1 then .read else .none
  | .tanks => (s.tankRec n).code
  | .zones => .none
  | .buses => (s.zoneRec (s.busRec n).zone).codeAt ring
  | .feeders => (s.zoneRec (s.busRec (s.feederRec n).bus).zone).codeAt ring
  | .accounts => (s.accountRec n).code
  | .deliveries => (s.tankRec (s.ctx n).governor).code
  | .nodes => .none
  | .site => .none

/-- Check 7: the right on a governing record. Ring 0 passes; a context is reached by its opener alone (R115);
a node may LOOKUP its own entry (R167). -/
def Asked.mayReach (a : Asked) (t : TableId) (n : Nat) (need : Need) (s : State) : Bool :=
  decide (a.ring = 0)
    || (match t with
        | .deliveries =>
          decide ((s.ctx n).state ≠ .idle ∧ (s.ctx n).opener = some a.party)
            && (s.codeOf t n a.ring).grants need
        | .nodes => decide (need = .read ∧ a.party = .node n)
        | _ => (s.codeOf t n a.ring).grants need)

/-- The fields rings 1 and 3 may amend (R173). -/
def amendable (t : TableId) (ring : Nat) : List Nat :=
  match t with
  | .tanks => [9]
  | .buses => if ring = 1 then [6] else []
  | _ => []

/-- Check 7 for AMEND: the code, and at rings 1 and 3 the fields named (R173). A feeder needs ring 0 (R58), and an
account's fields are changed at no code (R141); a bus at ring 3 passes with no field named (log 61). -/
def Asked.mayAmend (a : Asked) (t : TableId) (n : Nat) (s : State) : Bool :=
  decide (a.ring = 0)
    || (a.mayReach t n .amend s && decide (t ≠ .accounts ∧ t ≠ .feeders)
        && a.req.fields.all (fun p => decide (p.1 ∈ amendable t a.ring)))

/-- The rings at which LOOKUP of a table's header is answered (R162). -/
def headerOpen (t : TableId) (ring : Nat) : Bool :=
  match t with
  | .zones | .nodes | .site => decide (ring = 0)
  | .sets => decide (ring = 0 ∨ ring = 1)
  | _ => true

/-- Checks 5 to 7 for a request on the record its index names, and then its own checks. -/
def onRecord (a : Asked) (t : TableId) (need : Need) (own : Nat → State → Answered) (s : State) :
    Answered :=
  let n := a.req.index
  if n = 0 then refuse .notPermitted s
  else if !s.holds t n then refuse .noRecord s
  else if !a.mayReach t n need s then refuse .notPermitted s
  else own n s

/-! ## Running a request (R174) -/

/-- Checks 2 to 4, and then the checks and effects of the request's kind. -/
def checkRequest (k : ReqKind) (own : Asked → State → Answered) (party : Party) (q : Request)
    (s : State) : Answered :=
  match effectiveRing (s.linkRing party) q.ring with
  | none => refuse .ringInvalid s
  | some ring =>
    if !q.matched k then refuse .outOfRange s
    else if !ringAdmits k (TableId.ofCode q.table) ring then refuse .notPermitted s
    else own { party, ring, req := q } s

/-- The answer goes where the request came from, and a HELD close is then examined where the request calls
for it (R175, R188, R150). -/
def deliver (party : Party) (a : Answered) : State :=
  let s1 := match party with
    | .port => a.state.onPort (Port.respond a.response)
    | .node n => offerOutcome n a.response a.state
  if a.release then releaseHold s1 else s1

/-- A request from a node whose role or kind bars it: EQUIPMENT, and TAKE_NOTICE from any node (R169). -/
def barred (k : ReqKind) (node : Nat) (s : State) : Bool :=
  decide ((s.nodeRec node).role = .equipment ∨ k = .takeNotice)

/-- A request carried in a QUERY is taken from its slot (R169, R187, R188). -/
def dispatchRequest (k : ReqKind) (own : Asked → State → Answered) (t : Slot) (s : State) : State :=
  let node := t.frame.source
  if barred k node s then offerOutcome node { answer := .notPermitted } s
  else match t.frame.request with
    | none => offerOutcome node { answer := .outOfRange } s
    | some q => deliver (.node node) (checkRequest k own (.node node) q s)

/-- Take the request of kind `k` that waits in the request slot or in an inbound slot; where none waits,
nothing changes (log 3). -/
def runRequest (k : ReqKind) (own : Asked → State → Answered) (src : Source) (s : State) : State :=
  match src with
  | .port =>
    match s.port.request with
    | none => s
    | some q =>
      if ReqKind.ofCode q.kind = some k then deliver .port (checkRequest k own .port q s) else s
  | .slot n => dispatchSlot n (fun m => decide (m = .request k)) (fun t _ => dispatchRequest k own t) s

end Sys2Proof.Machine
end

