-- ==== Sys2Proof/Machine/Lookup.lean ====
section
/-! DEFINITION. LOOKUP and FIND (08, R161 to R163; R3, R6, R23, R47, R49, R56, R114, R141). -/

namespace Sys2Proof.Machine

/-- A response's pairs cut down to the fields a LOOKUP names, if it names any (R163); one named twice is returned once
(log 81). -/
def selectPairs (named : Fields) (pairs : List (Nat × Nat)) : List (Nat × Nat) :=
  if named.isEmpty then pairs else pairs.filter (fun p => decide (p.1 ∈ named.map Prod.fst))

/-- Answer with pairs, when the fields named are all held (R163; a field named twice, log 81). -/
def showPairs (ids : List Nat) (named : Fields) (n : Nat) (pairs : List (Nat × Nat)) (s : State) :
    Answered :=
  if named.all (fun p => decide (p.1 ∈ ids)) then
    { state := s, response := { answer := .done, record := n, fields := selectPairs named pairs } }
  else refuse .outOfRange s

/-- Show a record, after the right on it. -/
def showRecord (a : Asked) (t : TableId) (n : Nat) (s : State) : Answered :=
  if a.mayReach t n .read s then
    showPairs t.fieldIds a.req.fields n ((s.recordPairs t n).getD []) s
  else refuse .notPermitted s

/-- LOOKUP of an index: 0 is the header (R162, R163). -/
def lookupTable (a : Asked) (t : TableId) (s : State) : Answered :=
  let n := a.req.index
  if n = 0 then
    if headerOpen t a.ring then showPairs t.headerIds a.req.fields 0 (s.header t) s
    else refuse .notPermitted s
  else if s.holds t n then showRecord a t n s
  else refuse .noRecord s

/-- The bucket of a tag (R2). -/
def bucketOf (tag : Nat) : Nat := tag % Config.tagBuckets

/-- The set numbers of a tag's bucket. -/
def State.bucket (s : State) (tag : Nat) : List Nat := (Tbl.find s.tagIndex (bucketOf tag)).getD []

/-- The set of a tag, looked for in the tag's bucket alone (R6). -/
def State.setOfTag (s : State) (tag : Nat) : Option Nat :=
  (s.bucket tag).find? (fun n => (s.setRec n).tag = tag)

/-- The record a key finds (R163). -/
def State.findKey (s : State) (t : TableId) (key : Nat) : Option Nat :=
  match t with
  | .sets => s.setOfTag key
  | .tanks => s.tanks.numWhere (fun r => decide (r.tag = key))
  | .zones => s.zones.numWhere (fun r => decide (r.tag = key))
  | .buses => s.buses.numWhere (fun r => decide (r.panel = key))
  | .feeders => s.feeders.numWhere (fun r => decide (r.meter = key))
  | .accounts => s.accounts.numWhere (fun r => decide (r.tag = key))
  | .deliveries => s.ctxUsed.find? (fun n => (s.ctx n).docket = some key)
  | .nodes | .site => none

/-- FIND of a key (R163). -/
def findTable (a : Asked) (t : TableId) (s : State) : Answered :=
  match s.findKey t a.req.index with
  | some n => showRecord a t n s
  | none => refuse .noRecord s

/-- The table a request names, which check 3 has found known. -/
def Asked.onTable (a : Asked) (own : Asked → TableId → State → Answered) (s : State) : Answered :=
  match TableId.ofCode a.req.table with
  | some t => own a t s
  | none => refuse .outOfRange s

/-- LOOKUP (R163). -/
def execLookup (src : Source) (s : State) : Host.Outcome State Fault Refusal :=
  .next (runRequest .lookup (fun a => a.onTable lookupTable) src s)

/-- FIND (R163). -/
def execFind (src : Source) (s : State) : Host.Outcome State Fault Refusal :=
  .next (runRequest .find (fun a => a.onTable findTable) src s)

end Sys2Proof.Machine
end

