-- ==== Sys2Proof/Machine/Enrol.lean ====
section
/-! DEFINITION. ENROL (08, R164, R168; R4, R5, R22, R46, R50, R51, R57, R140). -/

namespace Sys2Proof.Machine

/-! ## Shared checks -/

/-- A site line address from 2 to 62 held in the node table with role EQUIPMENT. -/
def State.equipment (s : State) (v : Nat) : Bool :=
  inRange 2 Config.nodes v && (s.node? v).any (fun r => decide (r.role = .equipment))

/-- Every field of a list is given. -/
def Fields.hasAll (fs : Fields) (ids : List Nat) : Bool := ids.all (fun id => (fs.get id).isSome)

/-- A given field, or 0. -/
def Fields.val (fs : Fields) (id : Nat) : Nat := (fs.get id).getD 0

/-- A mark, if given, is 0 or 1. -/
def Fields.markOk (fs : Fields) (id : Nat) : Bool := (fs.get id).all (fun v => (markOf v).isSome)

/-- A mark as given, or clear. -/
def Fields.mark (fs : Fields) (id : Nat) : Bool := ((fs.get id).bind markOf).getD false

/-- An access code, if given, is one of the five. -/
def Fields.codeOk (fs : Fields) (id : Nat) : Bool :=
  (fs.get id).all (fun v => (AccessCode.ofCode v).isSome)

/-- An access code as given, or NONE. -/
def Fields.code (fs : Fields) (id : Nat) : AccessCode :=
  ((fs.get id).bind AccessCode.ofCode).getD .none

def tagOk (v : Nat) : Bool := inRange 1 Config.max32 v
def curveOk (v : Nat) : Bool := inRange 100 999 v
def ratedOk (v : Nat) : Bool := inRange 10 1000 v
def noLoadOk (v : Nat) : Bool := inRange 0 50000 v
def capacityOk (v : Nat) : Bool := inRange 50000 30000000 v

/-- A set of an ENROL or AMEND is IN_USE. -/
def State.setInUse (s : State) (n : Nat) : Bool := (s.set? n).any (fun r => decide (r.status = .inUse))

/-- Run an ENROL: the fields it may carry, which are examined before the first of its table's checks (log 76), those
checks in order, and its acceptance (R164). -/
def enrolWith (t : TableId) (carried : List Nat) (fs : Fields) (checks : List (Bool × Answer))
    (adjusted : Bool) (n : Nat) (write : State → State) (s : State) : Answered :=
  match fs.enrolRefusal carried t.fieldIds with
  | some a => refuse a s
  | none =>
    match firstFailing checks with
    | some a => refuse a s
    | none => accept (if adjusted then .doneAdjusted else .done) t n (write s)

/-- A given value lies outside the range it is clamped to (R176). -/
def Fields.clamped (fs : Fields) (id lo hi : Nat) : Bool := (fs.get id).any (fun v => !inRange lo hi v)

/-! ## Sets (R4, R5) -/

/-- The new entry of a tag's bucket (R2). -/
def enterTag (tag n : Nat) (s : State) : State :=
  s.onTagIndex (fun t => Tbl.put t (bucketOf tag) (s.bucket tag ++ [n]))

/-- A tank supplies one more set. -/
def joinTank (tank : Option Nat) (s : State) : State :=
  match tank with
  | some t => s.updTank t (fun r => { r with suppliedSets := r.suppliedSets + 1 })
  | none => s

/-- The curve of a field list. -/
def Fields.curve (fs : Fields) (old : Curve) : Curve :=
  { s0 := (fs.get (entryId 5 1)).getD old.s0
    s1 := (fs.get (entryId 5 2)).getD old.s1
    s2 := (fs.get (entryId 5 3)).getD old.s2
    s3 := (fs.get (entryId 5 4)).getD old.s3
    s4 := (fs.get (entryId 5 5)).getD old.s4 }

/-- The checks of R4. A supplying tank given as 0 is given, and names no record (log 7); the pinned mark is
checked with the ranges of check 1 (log 52). -/
def setChecks (fs : Fields) (s : State) : List (Bool × Answer) :=
  let tank := fs.get 8
  let bucket := s.bucket (fs.val 2)
  [ (fs.hasAll ([2, 3, 4, 6] ++ entryIds 5 5) && tagOk (fs.val 2) && s.equipment (fs.val 3)
      && ratedOk (fs.val 4) && (entryIds 5 5).all (fun id => curveOk (fs.val id))
      && noLoadOk (fs.val 6) && fs.markOk 9, .outOfRange)
  , (bucket.all (fun n => decide ((s.setRec n).tag ≠ fs.val 2)), .duplicate)
  , ((s.sets.numWhere (fun r => decide (r.node = fs.val 3))).isNone, .duplicate)
  , (decide (bucket.length < Config.bucketSize), .collision)
  , ((s.sets.lowestFree Config.sets).isSome, .noRoom)
  , (tank.all (fun t => (s.tank? t).isSome), .noRecord)
  , (tank.all (fun t => decide ((s.tankRec t).suppliedSets < Config.setsPerTank)), .noRoom) ]

/-- An accepted ENROL of a set (R5). -/
def writeSet (n : Nat) (fs : Fields) (s : State) : State :=
  let tank := fs.get 8
  let r : SetRec :=
    { status := .inUse, tag := fs.val 2, node := fs.val 3, rated := fs.val 4, curve := fs.curve {}
      noLoad := fs.val 6, coolDown := ((fs.get 7).map (clamp 60 900)).getD 300, tank
      pinned := fs.mark 9, lastEstimate := s.clock, serial := s.nextId }
  recomputeSupply tank
    (joinTank tank (enterTag (fs.val 2) n (s.bumpId.onSets (fun t => Tbl.put t n r))))

def enrolSet (fs : Fields) (s : State) : Answered :=
  let n := (s.sets.lowestFree Config.sets).getD 0
  enrolWith .sets ([2, 3, 4, 6, 7, 8, 9] ++ entryIds 5 5) fs (setChecks fs s) (fs.clamped 7 60 900) n
    (writeSet n fs) s

/-! ## Tanks (R22) -/

/-- The checks of R22. A gauge node that is given, 0 as well, is held to the range of check 1; the access code
is checked there too (log 52). -/
def tankChecks (fs : Fields) (s : State) : List (Bool × Answer) :=
  let gauge := fs.get 3
  [ (fs.hasAll [2, 4] && tagOk (fs.val 2) && capacityOk (fs.val 4) && decide (fs.val 5 ≤ fs.val 4)
      && gauge.all s.equipment && fs.codeOk 16, .outOfRange)
  , ((s.tanks.numWhere (fun r => decide (r.tag = fs.val 2))).isNone, .duplicate)
  , (gauge.all (fun g => (s.tanks.numWhere (fun r => decide (r.gauge = some g))).isNone), .duplicate)
  , ((s.tanks.lowestFree Config.tanks).isSome, .noRoom) ]

/-- An accepted ENROL of a tank. -/
def writeTank (n : Nat) (fs : Fields) (s : State) : State :=
  let r : TankRec :=
    { tag := fs.val 2, gauge := fs.get 3, capacity := fs.val 4, level := fs.val 5
      lowThreshold := ((fs.get 9).map (clamp 30 720)).getD 120, code := fs.code 16
      serial := s.nextId }
  recomputeTank n (s.bumpId.onTanks (fun t => Tbl.put t n r))

def enrolTank (fs : Fields) (s : State) : Answered :=
  let n := (s.tanks.lowestFree Config.tanks).getD 0
  enrolWith .tanks [2, 3, 4, 5, 9, 16] fs (tankChecks fs s) (fs.clamped 9 30 720) n (writeTank n fs) s

/-! ## Zones (R46) -/

/-- The checks of R46. -/
def zoneChecks (fs : Fields) (s : State) : List (Bool × Answer) :=
  [ (fs.hasAll [2] && tagOk (fs.val 2) && fs.codeOk 3 && fs.codeOk 4 && fs.markOk 5, .outOfRange)
  , ((s.zones.numWhere (fun r => decide (r.tag = fs.val 2))).isNone, .duplicate)
  , ((s.zones.lowestFree Config.zones).isSome, .noRoom) ]

/-- An accepted ENROL of a zone. -/
def writeZone (n : Nat) (fs : Fields) (s : State) : State :=
  let r : ZoneRec :=
    { tag := fs.val 2, code1 := fs.code 3, code3 := fs.code 4, showHold := fs.mark 5 }
  s.onZones (fun t => Tbl.put t n r)

def enrolZone (fs : Fields) (s : State) : Answered :=
  let n := (s.zones.lowestFree Config.zones).getD 0
  enrolWith .zones [2, 3, 4, 5] fs (zoneChecks fs s) false n (writeZone n fs) s

/-! ## Buses (R50, R51) -/

/-- No set stands at two positions. -/
def inputsDistinct (xs : List (Option Nat)) : Bool := decide (xs.filterMap id).Nodup

/-- The checks of R50. A standby set given as 0 is given, and stands at no position (log 7); the no-break mark is
checked with the ranges of check 1 (log 52). -/
def busChecks (fs : Fields) (s : State) : List (Bool × Answer) :=
  let inputs := fs.entries 4 Config.inputs []
  let standby := fs.get 7
  [ (fs.hasAll [2, 3] && s.equipment (fs.val 3) && !inputs.isEmpty
      && inputs.all (fun x => x.all (inRange 1 Config.sets)) && fs.markOk 5, .outOfRange)
  , ((s.zone? (fs.val 2)).isSome, .noRecord)
  , ((s.buses.numWhere (fun r => decide (r.panel = fs.val 3))).isNone, .duplicate)
  , (inputs.all (fun x => x.all s.setInUse), .noRecord)
  , (inputsDistinct inputs, .duplicate)
  , (standby.all (fun n => decide (some n ∈ inputs)), .notCabled)
  , ((s.buses.lowestFree Config.buses).isSome, .noRoom) ]

/-- A zone's bus count changes. -/
def addBusTo (zone : Nat) (s : State) : State :=
  s.updZone zone (fun z => { z with busCount := z.busCount + 1 })

def dropBusFrom (zone : Nat) (s : State) : State :=
  s.updZone zone (fun z => { z with busCount := z.busCount - 1 })

/-- A set's standby-for count changes. -/
def addStandby (set : Option Nat) (s : State) : State :=
  match set with
  | some n => s.updSet n (fun r => { r with standbyFor := r.standbyFor + 1 })
  | none => s

def dropStandby (set : Option Nat) (s : State) : State :=
  match set with
  | some n => s.updSet n (fun r => { r with standbyFor := r.standbyFor - 1 })
  | none => s

/-- An accepted ENROL of a bus: LOST, and handed to standby arbitration (R51). -/
def writeBus (n : Nat) (fs : Fields) (s : State) : State :=
  let standby := fs.get 7
  let r : BusRec :=
    { zone := fs.val 2, panel := fs.val 3, inputs := fs.entries 4 Config.inputs []
      noBreak := fs.mark 5, required := min (fs.val 6) Config.enduranceMax, standby
      deadSince := some s.clock }
  arbitrate [n] (addStandby standby (addBusTo (fs.val 2) (s.onBuses (fun t => Tbl.put t n r))))

def enrolBus (fs : Fields) (s : State) : Answered :=
  let n := (s.buses.lowestFree Config.buses).getD 0
  enrolWith .buses ([2, 3, 5, 6, 7] ++ entryIds 4 Config.inputs) fs (busChecks fs s)
    (fs.clamped 6 0 Config.enduranceMax) n (writeBus n fs) s

/-! ## Feeders (R57) -/

def feederRatingOk (v : Nat) : Bool := inRange 1 1000 v

/-- An account that is OPEN. -/
def State.accountOpen (s : State) (n : Nat) : Bool :=
  (s.account? n).any (fun r => decide (r.status = .opened))

/-- The checks of R57. -/
def feederChecks (fs : Fields) (s : State) : List (Bool × Answer) :=
  [ (fs.hasAll [2, 3, 4, 5, 6] && s.equipment (fs.val 4) && feederRatingOk (fs.val 5)
      && decide (fs.val 6 < Config.meterModulus), .outOfRange)
  , ((s.bus? (fs.val 2)).isSome && (s.account? (fs.val 3)).isSome, .noRecord)
  , (s.accountOpen (fs.val 3), .wrongState)
  , ((s.feeders.numWhere (fun r => decide (r.meter = fs.val 4))).isNone, .duplicate)
  , ((s.feeders.lowestFree Config.feeders).isSome, .noRoom) ]

/-- A bus's feeder count changes. -/
def addFeederTo (bus : Nat) (s : State) : State :=
  s.updBus bus (fun b => { b with feederCount := b.feederCount + 1 })

def dropFeederFrom (bus : Nat) (s : State) : State :=
  s.updBus bus (fun b => { b with feederCount := b.feederCount - 1 })

/-- An account's feeder count changes. -/
def addFeederOf (account : Nat) (s : State) : State :=
  s.updAccount account (fun a => { a with feederCount := a.feederCount + 1 })

def dropFeederOf (account : Nat) (s : State) : State :=
  s.updAccount account (fun a => { a with feederCount := a.feederCount - 1 })

/-- An accepted ENROL of a feeder. -/
def writeFeeder (n : Nat) (fs : Fields) (s : State) : State :=
  let r : FeederRec :=
    { bus := fs.val 2, account := fs.val 3, meter := fs.val 4, rating := fs.val 5
      refReading := fs.val 6, refTime := s.clock }
  addFeederOf (fs.val 3) (addFeederTo (fs.val 2) (s.onFeeders (fun t => Tbl.put t n r)))

def enrolFeeder (fs : Fields) (s : State) : Answered :=
  let n := (s.feeders.lowestFree Config.feeders).getD 0
  enrolWith .feeders [2, 3, 4, 5, 6] fs (feederChecks fs s) false n (writeFeeder n fs) s

/-! ## Accounts (R140) -/

def energyRateOk (v : Nat) : Bool := inRange 0 100000 v
def fuelRateOk (v : Nat) : Bool := inRange 0 1000000 v

/-- The checks of R140. -/
def accountChecks (fs : Fields) (s : State) : List (Bool × Answer) :=
  [ (fs.hasAll [2, 4, 5] && tagOk (fs.val 2) && energyRateOk (fs.val 4) && fuelRateOk (fs.val 5)
      && fs.codeOk 3, .outOfRange)
  , ((s.accounts.numWhere (fun r => decide (r.tag = fs.val 2))).isNone, .duplicate)
  , ((s.accounts.lowestFree Config.accounts).isSome, .noRoom) ]

/-- An accepted ENROL of an account. -/
def writeAccount (n : Nat) (fs : Fields) (s : State) : State :=
  let r : AccountRec :=
    { status := .opened, tag := fs.val 2, code := fs.code 3, energyRate := fs.val 4
      fuelRate := fs.val 5 }
  s.onAccounts (fun t => Tbl.put t n r)

def enrolAccount (fs : Fields) (s : State) : Answered :=
  let n := (s.accounts.lowestFree Config.accounts).getD 0
  enrolWith .accounts [2, 3, 4, 5] fs (accountChecks fs s) false n (writeAccount n fs) s

/-! ## Nodes (R168) -/

/-- A ring that a node entry may hold. -/
def ringOk (v : Nat) : Bool := decide (v = 0 ∨ v = 1 ∨ v = 3)

/-- The checks of ENROL on the node table, whose index is the address (R168). -/
def nodeChecks (n : Nat) (fs : Fields) (s : State) : List (Bool × Answer) :=
  [ (fs.hasAll [2, 3] && inRange 2 Config.nodes n && (NodeRole.ofCode (fs.val 2)).isSome
      && ringOk (fs.val 3), .outOfRange)
  , ((s.node? n).isNone, .duplicate) ]

/-- An accepted ENROL of a node. -/
def writeNode (n : Nat) (fs : Fields) (s : State) : State :=
  let r : NodeRec := { role := (NodeRole.ofCode (fs.val 2)).getD .equipment, ring := fs.val 3 }
  s.onNodes (fun t => Tbl.put t n r)

def enrolNode (n : Nat) (fs : Fields) (s : State) : Answered :=
  enrolWith .nodes [2, 3] fs (nodeChecks n fs s) false n (writeNode n fs) s

/-! ## The command -/

/-- ENROL on a table, after the ring check (R164). -/
def enrolTable (a : Asked) (t : TableId) (s : State) : Answered :=
  let fs := a.req.fields
  match t with
  | .sets => enrolSet fs s
  | .tanks => enrolTank fs s
  | .zones => enrolZone fs s
  | .buses => enrolBus fs s
  | .feeders => enrolFeeder fs s
  | .accounts => enrolAccount fs s
  | .nodes => enrolNode a.req.index fs s
  | .deliveries | .site => refuse .notPermitted s

/-- ENROL (R164). -/
def execEnrol (src : Source) (s : State) : Host.Outcome State Fault Refusal :=
  .next (runRequest .enrol (fun a => a.onTable enrolTable) src s)

end Sys2Proof.Machine
end

