-- ==== Sys2Proof/Machine/Amend.lean ====
section
/-! DEFINITION. AMEND (08, R165, R173, R177; R7, R8, R23, R24, R26, R47, R53, R54, R58, R141, R146, R150,
R168). Every field is checked before any is written. -/

namespace Sys2Proof.Machine

/-! ## The common part -/

/-- A field the table does not hold (R165); which places of a table are fields, log 66. -/
def fieldCheck (t : TableId) (check : Nat → Nat → Option Answer) (id v : Nat) : Option Answer :=
  if id ∈ t.fieldIds then check id v else some .outOfRange

/-- Refuse with `a` unless a condition holds. -/
def unless_ (ok : Bool) (a : Answer) : Option Answer := if ok then none else some a

/-- The first field of the list that is refused, `check` being the table's own (R165). -/
def amendRefusal (t : TableId) (fs : Fields) (check : Nat → Nat → Option Answer) : Option Answer :=
  Fields.firstRefusal (fieldCheck t check) [] fs

/-- Run an AMEND that `refusal` refuses or passes. -/
def amendUnless (refusal : Option Answer) (t : TableId) (n : Nat) (adjusted : Bool)
    (write : State → State) (s : State) : Answered :=
  match refusal with
  | some a => refuse a s
  | none => accept (if adjusted then .doneAdjusted else .done) t n (write s)

/-- Run an AMEND whose fields are checked by `check`, in the order of the list (R165). -/
def amendWith (t : TableId) (n : Nat) (fs : Fields) (check : Nat → Nat → Option Answer)
    (adjusted : Bool) (write : State → State) (s : State) : Answered :=
  amendUnless (amendRefusal t fs check) t n adjusted write s

/-- A mark as given, or as it stands. -/
def Fields.markOr (fs : Fields) (id : Nat) (old : Bool) : Bool := ((fs.get id).bind markOf).getD old

/-- An access code as given, or as it stands. -/
def Fields.codeOr (fs : Fields) (id : Nat) (old : AccessCode) : AccessCode :=
  ((fs.get id).bind AccessCode.ofCode).getD old

/-- A number as given, or as it stands. -/
def Fields.valOr (fs : Fields) (id old : Nat) : Nat := (fs.get id).getD old

/-- An optional reference as given (0 makes it absent), or as it stands. -/
def Fields.refOr (fs : Fields) (id : Nat) (old : Option Nat) : Option Nat :=
  match fs.get id with
  | some v => refOf v
  | none => old

/-- A clamped number as given, or as it stands (R176). -/
def Fields.clampOr (fs : Fields) (id lo hi old : Nat) : Nat := ((fs.get id).map (clamp lo hi)).getD old

/-! ## Sets (R7, R8, R26) -/

/-- The supplying tank of a set is changed to `new`; where several cases of R26 hold, the first of its table is
the refusal (log 55). -/
def tankLinkRefusal (r : SetRec) (new : Option Nat) (s : State) : Option Answer :=
  if new = r.tank then none
  else firstFailing
    [ (new.all (fun t => (s.tank? t).isSome), .noRecord)
    , (new.all (fun t => decide ((s.tankRec t).suppliedSets < Config.setsPerTank)), .noRoom)
    , (r.chBus.isNone, .busy) ]

/-- The controller node of a set is changed to `v` (R7; the order of the refusals, log 55). -/
def setNodeRefusal (n v : Nat) (s : State) : Option Answer :=
  let r := s.setRec n
  if v = r.node then none
  else firstFailing
    [ (s.equipment v, .outOfRange)
    , ((s.sets.numWhere (fun t => decide (t.node = v))).isNone, .duplicate)
    , (decide (r.chBus = none ∧ r.op ≠ .starting ∧ r.op ≠ .cooling), .busy) ]

/-- A field of a set (R7; the status field, log 65); the link to the supplying tank is checked after all of them, by
`setAmendRefusal`. -/
def setFieldRefusal (n : Nat) (s : State) (id v : Nat) : Option Answer :=
  let r := s.setRec n
  if id = 3 then setNodeRefusal n v s
  else if id = 4 then
    firstFailing [(ratedOk v, .outOfRange), (decide (v = r.rated ∨ r.chBus = none), .busy)]
  else if id % 256 = 5 then
    firstFailing
      [(curveOk v, .outOfRange), (decide (v = r.curve.point (id / 256 - 1) ∨ r.chBus = none), .busy)]
  else if id = 6 then unless_ (noLoadOk v) .outOfRange
  else if id = 7 then none
  else if id = 8 then none
  else if id = 9 then unless_ (markOf v).isSome .outOfRange
  else some .notPermitted

/-- An AMEND of a set: its fields in the order of the list, and then the link to the supplying tank ("after the
set's own checks", R26; log 51). -/
def setAmendRefusal (n : Nat) (fs : Fields) (s : State) : Option Answer :=
  let r := s.setRec n
  (amendRefusal .sets fs (setFieldRefusal n s)).or (tankLinkRefusal r (fs.refOr 8 r.tank) s)

/-- The fields of an AMEND on the set record. -/
def SetRec.amended (fs : Fields) (r : SetRec) : SetRec :=
  { r with
    node := fs.valOr 3 r.node
    rated := fs.valOr 4 r.rated
    curve := fs.curve r.curve
    noLoad := fs.valOr 6 r.noLoad
    coolDown := fs.clampOr 7 60 900 r.coolDown
    tank := fs.refOr 8 r.tank
    pinned := fs.markOr 9 r.pinned }

/-- A set moves from one tank to another: both counts, and both endurances with their low marks (R26). -/
def moveTank (former new : Option Nat) (s : State) : State :=
  if former = new then s
  else recomputeSupply new (recomputeSupply former (joinTank new (leaveTank former s)))

def writeSetAmend (n : Nat) (fs : Fields) (s : State) : State :=
  let former := (s.setRec n).tank
  moveTank former (fs.refOr 8 former) (s.updSet n (SetRec.amended fs))

def amendSet (n : Nat) (fs : Fields) (s : State) : Answered :=
  if (s.setRec n).status = .retiring then refuse .wrongState s
  else amendUnless (setAmendRefusal n fs s) .sets n (fs.clamped 7 60 900) (writeSetAmend n fs) s

/-! ## Tanks (R23, R24) -/

/-- A tag is changed to `v`, which no other record of its table may hold. -/
def tagRefusal (held : Option Nat) (now v : Nat) : Option Answer :=
  if v = now then none else firstFailing [(tagOk v, .outOfRange), (held.isNone, .duplicate)]

/-- The gauge node of a tank is changed to `v`; 0 removes it. -/
def gaugeRefusal (r : TankRec) (v : Nat) (s : State) : Option Answer :=
  match refOf v with
  | none => none
  | some g =>
    if r.gauge = some g then none
    else firstFailing
      [ (s.equipment g, .outOfRange)
      , ((s.tanks.numWhere (fun t => decide (t.gauge = some g))).isNone, .duplicate) ]

/-- A field of a tank (R23). The overfill takes 0 alone, its present value is refused like any other (log 53); a
capacity out of range is refused before a tank that is filling (log 54); the status field is refused NOT_PERMITTED
(log 65). -/
def tankFieldRefusal (n : Nat) (s : State) (id v : Nat) : Option Answer :=
  let r := s.tankRec n
  if id = 2 then tagRefusal (s.tanks.numWhere (fun t => decide (t.tag = v))) r.tag v
  else if id = 3 then gaugeRefusal r v s
  else if id = 4 then
    firstFailing
      [ (capacityOk v && decide (r.level ≤ v), .outOfRange)
      , (decide (v = r.capacity) || !r.filling, .tankBusy) ]
  else if id = 7 then unless_ (decide (v = 0)) .outOfRange
  else if id = 9 then none
  else if id = 16 then unless_ (AccessCode.ofCode v).isSome .outOfRange
  else some .notPermitted

/-- The fields of an AMEND on the tank record. -/
def TankRec.amended (fs : Fields) (r : TankRec) : TankRec :=
  { r with
    tag := fs.valOr 2 r.tag
    gauge := fs.refOr 3 r.gauge
    capacity := fs.valOr 4 r.capacity
    overfill := fs.valOr 7 r.overfill
    lowThreshold := fs.clampOr 9 30 720 r.lowThreshold
    code := fs.codeOr 16 r.code }

/-- A new low threshold makes the low mark be evaluated (R24). -/
def writeTankAmend (n : Nat) (fs : Fields) (s : State) : State :=
  let s1 := s.updTank n (TankRec.amended fs)
  if (s1.tankRec n).lowThreshold = (s.tankRec n).lowThreshold then s1 else evalLowMark n s1

def amendTank (n : Nat) (fs : Fields) (s : State) : Answered :=
  amendWith .tanks n fs (tankFieldRefusal n s) (fs.clamped 9 30 720) (writeTankAmend n fs) s

/-! ## Zones (R47) -/

/-- A field of a zone (R47; the status field, log 65). -/
def zoneFieldRefusal (n : Nat) (s : State) (id v : Nat) : Option Answer :=
  if id = 2 then tagRefusal (s.zones.numWhere (fun t => decide (t.tag = v))) (s.zoneRec n).tag v
  else if id = 3 ∨ id = 4 then unless_ (AccessCode.ofCode v).isSome .outOfRange
  else if id = 5 then unless_ (markOf v).isSome .outOfRange
  else some .notPermitted

/-- The fields of an AMEND on the zone record. -/
def ZoneRec.amended (fs : Fields) (r : ZoneRec) : ZoneRec :=
  { r with
    tag := fs.valOr 2 r.tag
    code1 := fs.codeOr 3 r.code1
    code3 := fs.codeOr 4 r.code3
    showHold := fs.markOr 5 r.showHold }

def amendZone (n : Nat) (fs : Fields) (s : State) : Answered :=
  amendWith .zones n fs (zoneFieldRefusal n s) false (fun t => t.onZones (fun z => z.upd n (ZoneRec.amended fs))) s

/-! ## Buses (R53, R54) -/

/-- Fields of the layout may change in STEADY and LOST alone (R53). -/
def BusRec.settled (r : BusRec) : Bool := decide (r.state = .steady ∨ r.state = .lost)

/-- The inputs list of an AMEND, refused as a whole at its first entry named (R50, R53; log 8; the order of the
refusals, log 55). A list that changes names IN_USE sets alone, at every position. -/
def inputsRefusal (r : BusRec) (fs : Fields) (s : State) : Option Answer :=
  let new := fs.entries 4 Config.inputs r.inputs
  let standby := fs.refOr 7 r.standby
  if new = r.inputs then none
  else firstFailing
    [ (new.all (fun x => x.all (inRange 1 Config.sets)), .outOfRange)
    , (new.all (fun x => x.all s.setInUse), .noRecord)
    , (inputsDistinct new, .duplicate)
    , (r.settled, .busy)
    , (decide (r.state ≠ .steady)
        || r.supplying.all (fun x => decide (new.findIdx? (fun y => y = some x) =
            r.inputs.findIdx? (fun y => y = some x))), .wrongState)
    , (standby.all (fun x => decide (some x ∈ new)), .notCabled) ]

/-- The switch panel node of a bus is changed to `v` (the order of the refusals, log 55). -/
def panelRefusal (r : BusRec) (v : Nat) (s : State) : Option Answer :=
  if v = r.panel then none
  else firstFailing
    [ (s.equipment v, .outOfRange)
    , ((s.buses.numWhere (fun t => decide (t.panel = v))).isNone, .duplicate)
    , (r.settled, .busy) ]

/-- The standby set of a bus is changed to `new`, which stands at a position of the inputs as amended and is
IN_USE: a RETIRING set that still stands there is refused NO_RECORD, so that a set made FREE is the standby set of
no bus (R52; log 58). -/
def standbyRefusal (r : BusRec) (fs : Fields) (new : Option Nat) (s : State) : Option Answer :=
  if new = r.standby then none
  else firstFailing
    [ (new.all (fun x => decide (some x ∈ fs.entries 4 Config.inputs r.inputs)), .notCabled)
    , (new.all s.setInUse, .noRecord)
    , (r.settled, .busy) ]

/-- A field of a bus (R53; the status field, log 65). -/
def busFieldRefusal (n : Nat) (fs : Fields) (s : State) (id v : Nat) : Option Answer :=
  let r := s.busRec n
  if id = 2 then
    if v = r.zone then none
    else firstFailing [((s.zone? v).isSome, .noRecord), (r.settled, .busy)]
  else if id = 3 then panelRefusal r v s
  else if id % 256 = 4 then inputsRefusal r fs s
  else if id = 5 then unless_ (markOf v).isSome .outOfRange
  else if id = 6 then none
  else if id = 7 then standbyRefusal r fs (refOf v) s
  else some .notPermitted

/-- The fields of an AMEND on the bus record, but for the zone and the standby set. -/
def BusRec.amended (fs : Fields) (r : BusRec) : BusRec :=
  { r with
    panel := fs.valOr 3 r.panel
    inputs := fs.entries 4 Config.inputs r.inputs
    noBreak := fs.markOr 5 r.noBreak
    required := fs.clampOr 6 0 Config.enduranceMax r.required }

/-- A bus moves from one zone to another (R54). -/
def moveZone (n new : Nat) (s : State) : State :=
  let former := (s.busRec n).zone
  if new = former then s
  else addBusTo new (dropBusFrom former (s.updBus n (fun b => { b with zone := new })))

/-- A bus takes another standby set: both counts, the queued mark, and arbitration when it is LOST (R54). -/
def moveStandby (n : Nat) (new : Option Nat) (s : State) : State :=
  let former := (s.busRec n).standby
  if new = former then s
  else
    let s1 := addStandby new (dropStandby former
      (s.updBus n (fun b => { b with standby := new, queued := false })))
    if (s.busRec n).state = .lost ∧ new ≠ none then arbitrate [n] s1 else s1

/-- The changes of R54, in the order of its table. -/
def writeBusAmend (n : Nat) (fs : Fields) (s : State) : State :=
  let r := s.busRec n
  moveStandby n (fs.refOr 7 r.standby)
    ((moveZone n (fs.valOr 2 r.zone) s).updBus n (BusRec.amended fs))

def amendBus (n : Nat) (fs : Fields) (s : State) : Answered :=
  amendWith .buses n fs (busFieldRefusal n fs s) (fs.clamped 6 0 Config.enduranceMax)
    (writeBusAmend n fs) s

/-! ## Feeders (R58) -/

/-- A field of a feeder (R58; the order of the refusals, log 55; the status field, log 65). -/
def feederFieldRefusal (n : Nat) (s : State) (id v : Nat) : Option Answer :=
  let r := s.feederRec n
  if id = 2 then
    if v = r.bus then none
    else firstFailing [((s.bus? v).isSome, .noRecord), (r.points.isEmpty, .busy)]
  else if id = 3 then
    if v = r.account then none
    else firstFailing [((s.account? v).isSome, .noRecord), (s.accountOpen v, .wrongState)]
  else if id = 4 then
    if v = r.meter then none
    else firstFailing
      [ (s.equipment v, .outOfRange)
      , ((s.feeders.numWhere (fun t => decide (t.meter = v))).isNone, .duplicate) ]
  else if id = 5 then unless_ (feederRatingOk v) .outOfRange
  else some .notPermitted

/-- A feeder moves to another bus: the point (now, the former bus's supplying set) is appended, and both
counts change (R58). -/
def moveBus (n new : Nat) (s : State) : State :=
  let former := (s.feederRec n).bus
  if new = former then s
  else
    let p : SwitchPoint := { time := s.clock, setBefore := (s.busRec former).supplying }
    addFeederTo new (dropFeederFrom former
      (s.updFeeder n (fun r => { (r.addPoint p) with bus := new })))

/-- A feeder passes to another account (R58). -/
def moveAccount (n new : Nat) (s : State) : State :=
  let former := (s.feederRec n).account
  if new = former then s
  else addFeederOf new (dropFeederOf former (s.updFeeder n (fun r => { r with account := new })))

def writeFeederAmend (n : Nat) (fs : Fields) (s : State) : State :=
  let r := s.feederRec n
  (moveAccount n (fs.valOr 3 r.account) (moveBus n (fs.valOr 2 r.bus) s)).updFeeder n (fun t =>
    { t with meter := fs.valOr 4 t.meter, rating := fs.valOr 5 t.rating })

def amendFeeder (n : Nat) (fs : Fields) (s : State) : Answered :=
  amendWith .feeders n fs (feederFieldRefusal n s) false (writeFeederAmend n fs) s

/-! ## Accounts (R141) -/

/-- A field of an account. -/
def accountFieldRefusal (n : Nat) (s : State) (id v : Nat) : Option Answer :=
  if id = 2 then
    tagRefusal (s.accounts.numWhere (fun t => decide (t.tag = v))) (s.accountRec n).tag v
  else if id = 3 then unless_ (AccessCode.ofCode v).isSome .outOfRange
  else if id = 4 then unless_ (energyRateOk v) .outOfRange
  else if id = 5 then unless_ (fuelRateOk v) .outOfRange
  else some .notPermitted

/-- The fields of an AMEND on the account record. -/
def AccountRec.amended (fs : Fields) (r : AccountRec) : AccountRec :=
  { r with
    tag := fs.valOr 2 r.tag
    code := fs.codeOr 3 r.code
    energyRate := fs.valOr 4 r.energyRate
    fuelRate := fs.valOr 5 r.fuelRate }

def amendAccount (n : Nat) (fs : Fields) (s : State) : Answered :=
  if (s.accountRec n).status = .closedOut then refuse .wrongState s
  else amendWith .accounts n fs (accountFieldRefusal n s) false
    (fun t => t.updAccount n (AccountRec.amended fs)) s

/-! ## Nodes (R167, R168) -/

/-- Some record names a node (R168). -/
def State.nodeNamed (s : State) (n : Nat) : Bool :=
  s.sets.any (fun e => decide (e.2.node = n))
    || s.tanks.any (fun e => decide (e.2.gauge = some n))
    || s.buses.any (fun e => decide (e.2.panel = n ∨ e.2.requester = some (.node n)))
    || s.feeders.any (fun e => decide (e.2.meter = n))
    || s.ctxUsed.any (fun k => decide ((s.ctx k).bowser = some n ∨ (s.ctx k).opener = some (.node n)))

/-- A field of a node (R168; a role out of range before a node in use, log 64; the status field, log 65). -/
def nodeFieldRefusal (n : Nat) (s : State) (id v : Nat) : Option Answer :=
  if id = 2 then
    firstFailing
      [ ((NodeRole.ofCode v).isSome, .outOfRange)
      , (decide (NodeRole.ofCode v = some (s.nodeRec n).role) || !s.nodeNamed n, .inUse) ]
  else if id = 3 then unless_ (ringOk v) .outOfRange
  else some .notPermitted

/-- The fields of an AMEND on the node entry. -/
def NodeRec.amended (fs : Fields) (r : NodeRec) : NodeRec :=
  { role := ((fs.get 2).bind NodeRole.ofCode).getD r.role, ring := fs.valOr 3 r.ring }

def amendNode (n : Nat) (fs : Fields) (s : State) : Answered :=
  if n = Config.ownAddress then refuse .notPermitted s
  else amendWith .nodes n fs (nodeFieldRefusal n s) false
    (fun t => t.onNodes (fun u => u.upd n (NodeRec.amended fs))) s

/-! ## The site record (R144, R177) -/

/-- A field of the site record. -/
def siteFieldRefusal (id v : Nat) : Option Answer :=
  if id = 1 ∨ id = 2 ∨ id = 3 then none
  else if id = 4 then unless_ (markOf v).isSome .outOfRange
  else some .notPermitted

/-- The fields of an AMEND on the site record. -/
def Site.amended (fs : Fields) (p : Site) : Site :=
  { p with
    scanInterval := fs.clampOr 1 10 600 p.scanInterval
    periodLength := fs.clampOr 2 15 1440 p.periodLength
    minuteCount := fs.clampOr 3 0 1439 p.minuteCount
    holdOption := fs.markOr 4 p.holdOption }

/-- AMEND of the site record; a hold option turned off while HELD performs the close, after the AMEND is
answered (R150, R177), so that the fields answered are those before the close (log 79). -/
def amendSite (fs : Fields) (s : State) : Answered :=
  let r := amendWith .site 1 fs siteFieldRefusal
    (fs.clamped 1 10 600 || fs.clamped 2 15 1440 || fs.clamped 3 0 1439)
    (fun t => t.onSite (Site.amended fs)) s
  { r with release := decide (r.response.answer = .done ∨ r.response.answer = .doneAdjusted) }

/-! ## The command -/

/-- AMEND of a resolved record (R165). -/
def amendRecord (t : TableId) (n : Nat) (fs : Fields) (s : State) : Answered :=
  match t with
  | .sets => amendSet n fs s
  | .tanks => amendTank n fs s
  | .zones => amendZone n fs s
  | .buses => amendBus n fs s
  | .feeders => amendFeeder n fs s
  | .accounts => amendAccount n fs s
  | .nodes => amendNode n fs s
  | .site => amendSite fs s
  | .deliveries => refuse .notPermitted s

/-- AMEND: resolution, the right, and the table's own checks (R174). -/
def amendTable (a : Asked) (t : TableId) (s : State) : Answered :=
  let n := a.req.index
  if n = 0 then refuse .notPermitted s
  else if !s.holds t n then refuse .noRecord s
  else if !a.mayAmend t n s then refuse .notPermitted s
  else amendRecord t n a.req.fields s

/-- AMEND (R165). -/
def execAmend (src : Source) (s : State) : Host.Outcome State Fault Refusal :=
  .next (runRequest .amend (fun a => a.onTable amendTable) src s)

end Sys2Proof.Machine
end

