-- ==== Sys2Proof/Machine/Retire.lean ====
section
/-! DEFINITION. RETIRE (08, R166, R168; R9, R25, R48, R55, R60, R142). -/

namespace Sys2Proof.Machine

/-- The pairs of a record with its status FREE. -/
def asFree (pairs : List (Nat × Nat)) : List (Nat × Nat) :=
  pairs.map (fun p => if p.1 = 1 then (1, SlotStatus.free.code) else p)

/-- The fields of a FREE record (R21, R45, R49, R56, R167). A set and an account are made FREE by a close and not
by RETIRE, and the contexts and the site record have no FREE record of this kind. -/
def freeFields (t : TableId) : List (Nat × Nat) :=
  match t with
  | .tanks => asFree ({} : TankRec).pairs
  | .zones => asFree ({} : ZoneRec).pairs
  | .buses => asFree ({} : BusRec).pairs
  | .feeders => asFree ({} : FeederRec).pairs
  | .nodes => asFree ({} : NodeRec).pairs
  | .sets | .accounts | .deliveries | .site => []

/-- A record that RETIRE has made FREE is returned as it stands after the event (R175; log 32). -/
def retired (t : TableId) (n : Nat) (s : State) : Answered :=
  { state := s, response := { answer := .done, record := n, fields := freeFields t } }

/-- Run a RETIRE that makes the record FREE: its refusals, the first that holds in the order of its rule
(log 55), and its acceptance. -/
def retireWith (t : TableId) (checks : List (Bool × Answer)) (n : Nat) (write : State → State) (s : State) :
    Answered :=
  match firstFailing checks with
  | some a => refuse a s
  | none => retired t n (write s)

/-! ## Sets (R9) -/

/-- A set number leaves its tag's bucket (R2). -/
def leaveTag (tag n : Nat) (s : State) : State :=
  let rest := (s.bucket tag).filter (fun k => k ≠ n)
  s.onTagIndex (fun t => if rest.isEmpty then Tbl.del t (bucketOf tag) else Tbl.put t (bucketOf tag) rest)

/-- The set is ordered down by its op state (R9). -/
def orderDown (n : Nat) (s : State) : State :=
  match (s.setRec n).op with
  | .running => sendCool n s
  | .starting => sendStop n s
  | .cooling | .stopped | .fault => s

/-- An accepted RETIRE of a set. -/
def writeSetRetire (n : Nat) (s : State) : State :=
  let s1 := leaveTag (s.setRec n).tag n s
  orderDown n (dropSetPoll n (s1.updSet n (fun r => { r with status := .retiring })))

def retireSet (n : Nat) (s : State) : Answered :=
  let r := s.setRec n
  match firstFailing
    [ (decide (r.status ≠ .retiring), .wrongState)
    , (decide (r.supplies = 0 ∧ r.chBus = none ∧ r.standbyFor = 0) && !r.pinned, .inUse) ] with
  | some a => refuse a s
  | none => accept .done .sets n (writeSetRetire n s)

/-! ## Tanks (R25), zones (R48) -/

def retireTank (n : Nat) (s : State) : Answered :=
  retireWith .tanks [(decide ((s.tankRec n).suppliedSets = 0) && !s.nominated n, .inUse)] n
    (fun t => t.onTanks (fun u => u.del n)) s

def retireZone (n : Nat) (s : State) : Answered :=
  retireWith .zones [(decide ((s.zoneRec n).busCount = 0), .inUse)] n
    (fun t => t.onZones (fun u => u.del n)) s

/-! ## Buses (R55) -/

/-- The steps of R55, in its order. -/
def writeBusRetire (n : Nat) (s : State) : State :=
  let r := s.busRec n
  let s1 := forEach r.supplying.toList decSupplies s
  let s2 := dropBusFrom r.zone (dropStandby r.standby s1)
  s2.onBuses (fun t => t.del n)

def retireBus (n : Nat) (s : State) : Answered :=
  let r := s.busRec n
  retireWith .buses [(decide (r.feederCount = 0), .inUse), (r.settled, .wrongState)] n (writeBusRetire n) s

/-! ## Feeders (R60) -/

/-- An accepted RETIRE of a feeder: its poll or its read leaves the running pass (R60, R67). -/
def writeFeederRetire (n : Nat) (s : State) : State :=
  let r := s.feederRec n
  let s1 := dropFeederOf r.account (dropFeederFrom r.bus (s.onFeeders (fun t => t.del n)))
  dropFeederPoll n r.inFlight s1

def retireFeeder (n : Nat) (s : State) : Answered :=
  retireWith .feeders [((s.feederRec n).points.isEmpty, .busy)] n (writeFeederRetire n) s

/-! ## Accounts (R142) and nodes (R168) -/

def retireAccount (n : Nat) (s : State) : Answered :=
  let r := s.accountRec n
  match firstFailing
    [ (decide (n ≠ 1), .notPermitted)
    , (decide (r.status = .opened), .wrongState)
    , (decide (r.feederCount = 0), .inUse) ] with
  | some a => refuse a s
  | none => accept .done .accounts n (s.updAccount n (fun t => { t with status := .retiring }))

def retireNode (n : Nat) (s : State) : Answered :=
  retireWith .nodes [(decide (n ≠ Config.ownAddress), .notPermitted), (!s.nodeNamed n, .inUse)] n
    (fun t => t.onNodes (fun u => u.del n)) s

/-! ## The command -/

/-- RETIRE of a resolved record; the site record and the contexts are never retired (R166). -/
def retireRecord (t : TableId) (n : Nat) (s : State) : Answered :=
  match t with
  | .sets => retireSet n s
  | .tanks => retireTank n s
  | .zones => retireZone n s
  | .buses => retireBus n s
  | .feeders => retireFeeder n s
  | .accounts => retireAccount n s
  | .nodes => retireNode n s
  | .deliveries | .site => refuse .notPermitted s

/-- RETIRE: resolution, and the table's own checks; ring 0 holds by check 4 (R174). A field list is not read (log 80). -/
def retireTable (a : Asked) (t : TableId) (s : State) : Answered :=
  let n := a.req.index
  if n = 0 then refuse .notPermitted s
  else if !s.holds t n then refuse .noRecord s
  else retireRecord t n s

/-- RETIRE (R166). -/
def execRetire (src : Source) (s : State) : Host.Outcome State Fault Refusal :=
  .next (runRequest .retire (fun a => a.onTable retireTable) src s)

end Sys2Proof.Machine
end

