-- ==== Sys2Proof/Machine/Operations.lean ====
section
/-! DEFINITION. The operational requests (08, R173; 10, "Formats"): those on buses, tanks, feeders, the site,
delivery contexts and accounts, each with the checks of its chapter. -/

namespace Sys2Proof.Machine

/-- A request without parameters, on the record it names (10, "Formats"); one that carries a parameter is refused
before the request's own checks (log 78). -/
def operate (a : Asked) (t : TableId) (own : Nat → State → Answered) (s : State) : Answered :=
  onRecord a t .request
    (fun n u => if a.params.paramsOk 0 then own n u else refuse .outOfRange u) s

/-! ## Buses (R87, R100, R111) -/

/-- CHANGEOVER: parameters 1 set and 2 kind (R87, R88); their form is checked first (log 78). -/
def changeoverOwn (a : Asked) (n : Nat) (s : State) : Answered :=
  let fs : Fields := a.params
  match fs.get 1, (fs.get 2).bind ChKind.ofCode with
  | some set, some kind =>
    if fs.paramsOk 2 then
      match changeoverRefusal n set kind a.ring s with
      | some x => refuse x s
      | none => accept .started .buses n (acceptChangeover n set kind a.party s)
    else refuse .outOfRange s
  | _, _ => refuse .outOfRange s

/-- CHANGEOVER (R87). -/
def execChangeover (src : Source) (s : State) : Host.Outcome State Fault Refusal :=
  .next (runRequest .changeover (fun a => onRecord a .buses .request (changeoverOwn a)) src s)

/-- CANCEL_CHANGEOVER (R100). -/
def execCancelChangeover (src : Source) (s : State) : Host.Outcome State Fault Refusal :=
  .next (runRequest .cancelChangeover (fun a => operate a .buses (fun n u =>
    acceptOr .buses n (cancelChangeover n a.ring a.party u))) src s)

/-- CONFIRM_SUPPLY: parameter 1 the set, left out when none is named (R111). -/
def confirmOwn (a : Asked) (n : Nat) (s : State) : Answered :=
  if a.params.paramsOk 1 then acceptOr .buses n (confirmSupply n (a.params.get 1) s)
  else refuse .outOfRange s

/-- CONFIRM_SUPPLY (R111). -/
def execConfirmSupply (src : Source) (s : State) : Host.Outcome State Fault Refusal :=
  .next (runRequest .confirmSupply (fun a => onRecord a .buses .request (confirmOwn a)) src s)

/-! ## Tanks and feeders (R38, R74) -/

/-- DIP_ENTRY: parameter 1 the level; a filling tank is refused before a level above the capacity (R38; the order,
log 64). -/
def dipOwn (a : Asked) (n : Nat) (s : State) : Answered :=
  match a.params.get 1 with
  | none => refuse .outOfRange s
  | some level =>
    match firstFailing
      [ (a.params.paramsOk 1, .outOfRange)
      , (!(s.tankRec n).filling, .tankBusy)
      , (decide (level ≤ (s.tankRec n).capacity), .outOfRange) ] with
    | some x => refuse x s
    | none => accept .done .tanks n (reconcileTank n level s)

/-- DIP_ENTRY (R38). -/
def execDipEntry (src : Source) (s : State) : Host.Outcome State Fault Refusal :=
  .next (runRequest .dipEntry (fun a => onRecord a .tanks .request (dipOwn a)) src s)

/-- RESEAT_FEEDER: parameter 1 the meter count (R74). -/
def reseatOwn (a : Asked) (n : Nat) (s : State) : Answered :=
  match a.params.get 1 with
  | none => refuse .outOfRange s
  | some count =>
    if a.params.paramsOk 1 && decide (count < Config.meterModulus) then
      accept .done .feeders n (reseatFeeder n count s)
    else refuse .outOfRange s

/-- RESEAT_FEEDER (R74). -/
def execReseatFeeder (src : Source) (s : State) : Host.Outcome State Fault Refusal :=
  .next (runRequest .reseatFeeder (fun a => onRecord a .feeders .request (reseatOwn a)) src s)

/-! ## The site record (R63, R147) -/

/-- START_PASS by pass state (R63). -/
def startPassOwn (n : Nat) (s : State) : Answered :=
  match s.pass.state with
  | .idle => accept .started .site n (startPass false (setScan s))
  | .running => refuse .busy s

/-- START_PASS (R63). -/
def execStartPass (src : Source) (s : State) : Host.Outcome State Fault Refusal :=
  .next (runRequest .startPass (fun a => operate a .site startPassOwn) src s)

/-- CLOSE_PERIOD by close state (R147). -/
def closePeriodOwn (n : Nat) (s : State) : Answered :=
  if s.site.closeState = .opened then
    accept .started .site n (closeDue (s.onSite (fun p => { p with minuteCount := 0 })))
  else refuse .busy s

/-- CLOSE_PERIOD (R147). -/
def execClosePeriod (src : Source) (s : State) : Host.Outcome State Fault Refusal :=
  .next (runRequest .closePeriod (fun a => operate a .site closePeriodOwn) src s)

/-! ## Deliveries (R115 to R118, R125 to R128, R134, R136) -/

/-- A target, if given, is from 1 to the tank's capacity. -/
def targetOk (target : Option Nat) (tank : Nat) (s : State) : Bool :=
  optInRange 1 (s.tankRec tank).capacity target

/-- An active context names a bowser node. -/
def State.bowserBusy (s : State) (bowser : Nat) : Bool :=
  ([1, 2] : List Nat).any (fun n => (s.ctx n).state.active && decide ((s.ctx n).bowser = some bowser))

/-- A node of role HANDHELD from 2 to 62. -/
def State.handheld (s : State) (v : Nat) : Bool :=
  inRange 2 Config.nodes v && (s.node? v).any (fun r => decide (r.role = .handheld))

/-- OPEN_DELIVERY: parameters 1 bowser node, 2 docket number, 3 target (R116, R117). -/
def openDeliveryOwn (a : Asked) (tank : Nat) (s : State) : Answered :=
  let fs : Fields := a.params
  match fs.get 1, fs.get 2 with
  | some bowser, some docket =>
    match firstFailing
      [ (fs.paramsOk 3 && s.handheld bowser && targetOk (fs.get 3) tank s, .outOfRange)
      , (!s.nominated tank, .duplicate)
      , (!s.bowserBusy bowser, .duplicate)
      , ((s.findKey .deliveries docket).isNone, .duplicate)
      , (s.idleCtx.isSome, .noRoom) ] with
    | some x => refuse x s
    | none =>
      let n := s.idleCtx.getD 1
      accept .started .deliveries n (openContext n bowser docket tank (fs.get 3) a.party s)
  | _, _ => refuse .outOfRange s

/-- OPEN_DELIVERY (R117). -/
def execOpenDelivery (src : Source) (s : State) : Host.Outcome State Fault Refusal :=
  .next (runRequest .openDelivery (fun a => onRecord a .tanks .request (openDeliveryOwn a)) src s)

/-- NOMINATE's own checks and acceptance (R118); the form of its parameters is checked first (log 78). -/
def nominateOwn (a : Asked) (n tank : Nat) (s : State) : Answered :=
  let target := a.params.get 2
  match firstFailing
    [ (a.params.paramsOk 2, .outOfRange)
    , (decide ((s.ctx n).state = .gathering), .tooLate)
    , (targetOk target tank s, .outOfRange)
    , (!s.nominated tank, .duplicate)
    , (decide ((s.ctx n).noms.length < Config.nominations), .noRoom) ] with
  | some x => refuse x s
  | none => accept .done .deliveries n (appendNomination n tank target s)

/-- NOMINATE: the context by index and the tank by parameter 1 are resolved, and the right on each is checked
in that order (R118, R174). Without parameter 1 no tank is resolved, and the request is refused after the right on the
context (log 78). -/
def nominateTable (a : Asked) (s : State) : Answered :=
  let n := a.req.index
  match a.params.get 1 with
  | none => onRecord a .deliveries .request (fun _ u => refuse .outOfRange u) s
  | some tank =>
    if decide (n ≠ 0) && !s.holds .deliveries n then refuse .noRecord s
    else if (s.tank? tank).isNone then refuse .noRecord s
    else if n = 0 then refuse .notPermitted s
    else if a.mayReach .deliveries n .request s && a.mayReach .tanks tank .request s then
      nominateOwn a n tank s
    else refuse .notPermitted s

/-- NOMINATE (R118). -/
def execNominate (src : Source) (s : State) : Host.Outcome State Fault Refusal :=
  .next (runRequest .nominate nominateTable src s)

/-- SUSPEND_DELIVERY (R128). -/
def execSuspendDelivery (src : Source) (s : State) : Host.Outcome State Fault Refusal :=
  .next (runRequest .suspendDelivery (fun a => operate a .deliveries (fun n u =>
    acceptOr .deliveries n (suspendDelivery n u))) src s)

/-- RESUME_DELIVERY (R125, R128). -/
def execResumeDelivery (src : Source) (s : State) : Host.Outcome State Fault Refusal :=
  .next (runRequest .resumeDelivery (fun a => operate a .deliveries (fun n u =>
    acceptOr .deliveries n (resumeDelivery n u))) src s)

/-- SKIP_NOMINATION (R127). -/
def execSkipNomination (src : Source) (s : State) : Host.Outcome State Fault Refusal :=
  .next (runRequest .skipNomination (fun a => operate a .deliveries (fun n u =>
    acceptOr .deliveries n (skipNomination n u))) src s)

/-- ABANDON_DELIVERY (R134). -/
def execAbandonDelivery (src : Source) (s : State) : Host.Outcome State Fault Refusal :=
  .next (runRequest .abandonDelivery (fun a => operate a .deliveries (fun n u =>
    acceptOr .deliveries n (abandonDelivery n u))) src s)

/-- COLLECT_DOCKET: the docket is returned and the context becomes IDLE (R136). -/
def collectDocketOwn (n : Nat) (s : State) : Answered :=
  if (s.ctx n).state = .done then
    { state := s.updCtx n (fun _ => {})
      response := { answer := .done, record := n, fields := (s.ctx n).docketPairs } }
  else refuse .wrongState s

/-- COLLECT_DOCKET (R136). -/
def execCollectDocket (src : Source) (s : State) : Host.Outcome State Fault Refusal :=
  .next (runRequest .collectDocket (fun a => operate a .deliveries collectDocketOwn) src s)

/-! ## Accounts (R158) -/

/-- The account after a collection: a CLOSED_OUT one becomes FREE, any other holds the statement collected. -/
def collected (n : Nat) (r : AccountRec) (t : Statement) (s : State) : State :=
  if r.status = .closedOut then s.onAccounts (fun u => u.del n)
  else s.updAccount n (fun u => { u with statement := some t })

/-- COLLECT_STATEMENT: the statement is returned with its collected mark set; a HELD close is then examined
(R158, R150). -/
def collectStatementOwn (n : Nat) (s : State) : Answered :=
  let r := s.accountRec n
  match r.statement with
  | none => refuse .wrongState s
  | some t0 =>
    let t := { t0 with collected := true }
    { state := collected n r t s
      response := { answer := .done, record := n, fields := t.pairs }
      release := true }

/-- COLLECT_STATEMENT (R158). -/
def execCollectStatement (src : Source) (s : State) : Host.Outcome State Fault Refusal :=
  .next (runRequest .collectStatement (fun a => operate a .accounts collectStatementOwn) src s)

end Sys2Proof.Machine
end

