-- ==== Sys2Proof/Machine/PortCommands.lean ====
section
/-! DEFINITION. The control port's commands: READ, WRITE and TAKE_NOTICE (10, R192 to R197). -/

namespace Sys2Proof.Machine

/-! ## READ (R193) -/

/-- What PDO gives over the bytes clocked: the response frame from its first byte, then zeros. -/
def clockOut (frame : List Byte) (clocked : Nat) : List Byte :=
  frame.take clocked ++ List.replicate (clocked - frame.length) 0

/-- A READ of so many whole bytes: a response clocked out whole leaves the slot, and RDY is deasserted. -/
def readPort (clocked : Nat) (p : Port) : Port :=
  match p.response with
  | none => { p with pdo := clockOut [] clocked }
  | some r =>
    let p1 := { p with pdo := clockOut r.bytes clocked }
    if r.bytes.length ≤ clocked then p1.taken else p1

/-- READ (R193); while RESET is asserted the port takes no transaction and PDO gives 0 (R199). -/
def execRead (clocked : Nat) (s : State) : Host.Outcome State Fault Refusal :=
  .next (s.onPort (if s.resetHeld then Port.zeros clocked else readPort clocked))

/-! ## WRITE (R192, R194) -/

/-- A request of a kind the part does not know: its ring is checked first, and it is refused OUT_OF_RANGE
(R174, R161). -/
def unknownRequest (q : Request) : Answer :=
  if (effectiveRing 0 q.ring).isSome then .outOfRange else .ringInvalid

/-- A frame enters the request slot; one whose framing fails, or whose kind the part does not know, has no
command to take it and is answered within its WRITE (R192; log 35). -/
def acceptWrite (frame : Option Request) (p : Port) : Port :=
  match frame with
  | none => p.respond { answer := .outOfRange }
  | some q =>
    if (ReqKind.ofCode q.kind).isSome then { p with request := some q }
    else p.respond { answer := unknownRequest q }

/-- A WRITE that ends: it is discarded while either slot holds a frame (R194). -/
def writePort (bytes : List Byte) (extraBits : Nat) (p : Port) : Port :=
  if p.request.isSome || p.response.isSome then p.discardWrite
  else acceptWrite (parseRequest bytes extraBits) p

/-- A transaction of the port by its first byte: after WRITE a request frame, after READ so many bytes clocked out;
one that begins with another code, or ends before its first byte is whole, changes nothing and PDO gives 0 (R192;
log 63). -/
def transact (bytes : List Byte) (extraBits : Nat) (p : Port) : Port :=
  match bytes with
  | [] => p.zeros 0
  | code :: rest =>
    if code = Config.writeCode then writePort rest extraBits p
    else if code = Config.readCode then readPort rest.length p
    else p.zeros bytes.length

/-- WRITE (R192). -/
def execWrite (bytes : List Byte) (extraBits : Nat) (s : State) : Host.Outcome State Fault Refusal :=
  .next (unlessHeld (fun t => t.onPort (transact bytes extraBits)) s)

/-! ## TAKE_NOTICE (R197) -/

/-- TAKE_NOTICE on the control port, at any valid ring. -/
def takeNotice (_ : Asked) (s : State) : Answered :=
  { state := s.onPort (fun p => p.takeNotice.1), response := s.port.takeNotice.2 }

/-- TAKE_NOTICE (R197). -/
def execTakeNotice (src : Source) (s : State) : Host.Outcome State Fault Refusal :=
  .next (runRequest .takeNotice takeNotice src s)

end Sys2Proof.Machine
end

