-- ==== Sys2Proof/Machine/Resets.lean ====
section
/-! DEFINITION. Cold start, line reset, and the release of a line reset (10, R198, R199; 09, R190, R191), with
each block's share. What a block defers to the release waits in `ResetWork`. -/

namespace Sys2Proof.Machine

/-! ## Cold start -/

/-- COLD_START (R198): every record holds its cold-start value; the waiting commands are the outside
world's. -/
def execColdStart (s : State) : Host.Outcome State Fault Refusal :=
  .next (State.reset.setPending s.pending)

/-! ## The Transfer Controller at the reset (R112) -/

/-- A bus in PENDING or SYNCING is aborted with the record steps of R99; a supplying set that is not RUNNING
costs the bus its supply (R85; log 47). The sets whose part ends here are kept in the order of the buses, of one bus
the incoming set first (log 68). -/
def resetAbort (bus : Nat) (s : State) : State :=
  let r := s.busRec bus
  let ended := (r.incoming.getD 0) :: r.supplying.toList
  let (s1, f) := abortBack bus .lineReset s
  (forEach f.drop loseSupply s1).onResetWork (fun w =>
    { w with aborted := w.aborted ++ [bus], ended := w.ended ++ ended })

/-- A bus that may have moved a breaker enters UNCERTAIN (R108). -/
def resetUncertain (bus : Nat) (s : State) : State :=
  (uncertainRecord bus s).onResetWork (fun w => { w with uncertain := w.uncertain ++ [bus] })

/-- Each IN_USE bus by its state (R112). -/
def resetBus (bus : Nat) (s : State) : State :=
  match (s.busRec bus).state with
  | .pending | .syncing => resetAbort bus s
  | .closingIn | .overlap | .opening | .dead => resetUncertain bus s
  | .steady | .lost | .uncertain => s

/-- Every deadline of a bus is dropped, and every awaited reply is lost (R112). -/
def BusRec.lineReset (b : BusRec) : BusRec :=
  { b with warmUp := none, fuelWait := none, phase := none, awaited := none, askFrame := none }

/-- The Transfer Controller at a line reset (R112). -/
def resetTransfer (s : State) : State :=
  (forEach s.buses.nums resetBus s).onBuses (fun t => t.updAll BusRec.lineReset)

/-! ## The Delivery Controller at the reset (R137) -/

/-- A started current nomination becomes UNVERIFIED and its tank is credited, without the hand-off and the
ASK_LEVEL of R33 (R137, steps 1 and 2). -/
def resetCredit (n : Nat) (s : State) : State :=
  let c := s.ctx n
  if c.running then
    let tank := c.currentTank.getD 0
    let s1 := s.updCtx n (Ctx.updCurrent (fun m =>
      { m with status := .unverified, delivered := c.metered }))
    (s1.updTank tank (TankRec.credited c.metered s.clock)).onResetWork (fun w =>
      { w with credited := w.credited ++ [tank] })
  else s

/-- A GATHERING context becomes IDLE; its docket is void (R137). -/
def resetGathering (n : Nat) (s : State) : State :=
  (s.updCtx n (fun _ => {})).onResetWork (fun w =>
    { w with voided := w.voided ++ [(n, (s.ctx n).docket.getD 0)] })

/-- A delivery in flight ends INTERRUPTED (R137, steps 1 to 4). -/
def resetDelivery (n : Nat) (s : State) : State :=
  ((resetCredit n s).updCtx n (fun c => Ctx.finished .interrupted s.clock c.skipWaiting)).onResetWork
    (fun w => { w with interrupted := w.interrupted ++ [n] })

/-- A context by its state (R137). -/
def resetCtx (n : Nat) (s : State) : State :=
  match (s.ctx n).state with
  | .gathering => resetGathering n s
  | .dispensing | .suspending | .suspended | .stalled => resetDelivery n s
  | .idle | .done => s

/-! ## The other blocks at the reset (R20, R44, R81, R159, R190, R199) -/

/-- A set record: silent count 0, and no START awaits its outcome (R20, R112). -/
def SetRec.lineReset (r : SetRec) : SetRec := { r with silentCount := 0, startFrame := none }

/-- A tank record: the gauge deferred mark is cleared (R44). -/
def TankRec.lineReset (r : TankRec) : TankRec := { r with gaugeDeferred := false }

/-- A feeder record is kept; its read in flight is lost (R81). -/
def FeederRec.lineReset (r : FeederRec) : FeederRec := { r with inFlight := none }

/-- The running pass is abandoned and the scan deadline dropped (R81). -/
def Pass.lineReset (_ : Pass) : Pass :=
  { state := .idle, startTime := none, closing := false, polls := [], outstanding := 0, scanDeadline := none }

/-- A close in CLOSING_PASS becomes DUE (R159). -/
def Site.lineReset (p : Site) : Site :=
  { p with closeState := if p.closeState = .closingPass then .due else p.closeState }

/-- The records of the blocks that take no steps at the reset but those of their fields. -/
def resetRecords (s : State) : State :=
  ((((s.onSets (fun t => t.updAll SetRec.lineReset)).onTanks (fun t => t.updAll TankRec.lineReset)).onFeeders
    (fun t => t.updAll FeederRec.lineReset)).onPass Pass.lineReset).onSite Site.lineReset

/-- A line reset: every block's steps, and then the line and the port are emptied, so that nothing those
steps sent or raised is left (R190, R199). -/
def lineReset (s : State) : State :=
  let s1 := resetRecords (resetCtx 2 (resetCtx 1 (resetTransfer s)))
  ((s1.onLine (fun _ => {})).onPort Port.lineReset).setResetHeld true

/-- LINE_RESET (R190, R199): RESET is asserted. While it is already asserted nothing more happens
(log 46). -/
def execLineReset (s : State) : Host.Outcome State Fault Refusal :=
  .next (if s.resetHeld then s else lineReset s)

/-! ## The release -/

/-- RESTARTED with value 1 opens the queue (R199). -/
def releasePort (s : State) : State := raise .restarted .site 1 (some 1) s

/-- The Delivery Controller: HALT_ALL_FILLS by all-call, then the notices of the contexts, ascending
(R138). -/
def releaseDelivery (w : ResetWork) (s : State) : State :=
  forEach [1, 2] (fun n t =>
    let t1 := match w.voided.find? (fun v => v.1 = n) with
      | some v => raise .deliveryVoid .deliveries n (some v.2) t
      | none => t
    if n ∈ w.interrupted then
      raise .deliveryDone .deliveries n (some DocketOutcome.interrupted.code) t1
    else t1)
    (sendOrder 0 Kind.haltAllFills [] .nothing s)

/-- The order a set's started-by-changeover mark decides, for a set whose part ended at the reset (R113,
fourth; R86). -/
def releasePart (set : Nat) (s : State) : State :=
  let r := s.setRec set
  if 0 < r.supplies then s.updSet set (fun t => { t with startedByCh := false })
  else if r.chBus.isSome then s
  else orderByMark set s

/-- Every UNCERTAIN bus is asked for its inputs, and BUS_UNCERTAIN is raised for each that became UNCERTAIN at
the reset, in ascending bus number (R113, second; the order, log 69). -/
def releaseUncertain (w : ResetWork) (s : State) : State :=
  forEach s.buses.nums (fun b t =>
    if (t.busRec b).state = .uncertain then
      let t1 := askInputs b t
      if b ∈ w.uncertain then raise .busUncertain .buses b none t1 else t1
    else t) s

/-- The LOST buses that name a standby set, ascending. -/
def State.lostWithStandby (s : State) : List Nat :=
  Tbl.nums (s.buses.filter (fun e => decide (e.2.state = .lost) && e.2.standby.isSome))

/-- The Transfer Controller's four steps (R113). The second takes the buses in ascending number (log 69), the fourth
the sets in the order their parts ended (log 68). -/
def releaseTransfer (w : ResetWork) (s : State) : State :=
  let s1 := forEach w.aborted (fun b =>
    raise .changeoverAborted .buses b (some AbortReason.lineReset.code)) s
  let s2 := releaseUncertain w s1
  let s3 := arbitrate s2.lostWithStandby s2
  forEach w.ended releasePart s3

/-- The Fuel Estimator: ASK_LEVEL for each tank credited by the reset, then every tank recomputed, each in
ascending number (R44; log 60). -/
def releaseFuel (w : ResetWork) (s : State) : State :=
  let s1 := forEach (s.tanks.nums.filter (fun n => decide (n ∈ w.credited))) askLevel s
  forEach s1.tanks.nums recomputeTank s1

/-- A set's cool-down after a reset: a passed deadline is dropped, and it, or a COOLING state without a
deadline, sends STOP unless the set holds a changeover bus (R20). A COOLING set whose deadline a START had dropped
(R14) and whose START was lost at the reset is one of them, and so is one whose STOP was refused (R15; log 50). -/
def releaseCoolDown (set : Nat) (s : State) : State :=
  let r := s.setRec set
  let passed := reached r.coolDeadline s.clock
  let s1 := if passed then s.updSet set (fun t => { t with coolDeadline := none }) else s
  if r.chBus.isNone && (passed || (decide (r.op = .cooling) && r.coolDeadline.isNone)) then
    sendStop set s1
  else s1

/-- The Roster Unit: the minutes that passed are counted, and the cool-downs dealt with, set by set in
ascending number (R20; the order, log 75). -/
def releaseRoster (minutes : Nat) (s : State) : State :=
  forEach s.sets.nums releaseCoolDown (countMinutes minutes s)

/-- The Meter Scanner: the scan deadline, and a boundary read for every feeder that wants one (R81). -/
def releaseScanner (s : State) : State :=
  let s1 := setScan s
  forEach (Tbl.nums (s1.feeders.filter (fun e => e.2.boundary))) offerBoundary s1

/-- A close that stands HELD at the release raises CLOSE_HELD anew (R160, third). -/
def heldAnew (s : State) : State := raise .closeHeld .site 1 (some s.uncollected) s

/-- The Billing Unit: the minutes that passed match at most once; a close that is DUE asks for its closing
pass; one that stood HELD is announced anew (R160). -/
def releaseBilling (minutes : Nat) (s : State) : State :=
  let s1 := addPeriodMinutes minutes s
  match s.site.closeState with
  | .due => closeDue s1
  | .held => heldAnew s1
  | .opened | .closingPass => s1

/-- The release: the port, then the blocks in the order R191 lists their frames (log 24). -/
def lineResetRelease (s : State) : State :=
  let w := s.resetWork
  let minutes := s.clock / 60 - s.minutesTaken
  let s1 := releasePort ((s.setResetHeld false).onResetWork (fun _ => {}))
  let s2 := releaseTransfer w (releaseDelivery w (s1.setMinutesTaken (s.clock / 60)))
  releaseBilling minutes (releaseScanner (releaseRoster minutes (releaseFuel w s2)))

/-- LINE_RESET_RELEASE (R199): RESET is no longer asserted. Without a reset to release, nothing happens
(log 46). -/
def execLineResetRelease (s : State) : Host.Outcome State Fault Refusal :=
  .next (if s.resetHeld then lineResetRelease s else s)

end Sys2Proof.Machine
end

