-- ==== Sys2Proof/Machine/Idle.lean ====
section
/-! DEFINITION. What the part does when no command waits (DESIGN CHOICE, log 1): a request or frame that waits
in a slot is taken up, and otherwise a second passes, and the events whose time has come are put in the queue.
The table has no row for the passing of a second, and the manual says the clock counts whole seconds
(00_scope.md, "The site clock"). -/

namespace Sys2Proof.Machine

/-- The command that takes up a request of a kind. -/
def ReqKind.command (k : ReqKind) (src : Source) : Instr :=
  match k with
  | .lookup => .lookup src
  | .find => .find src
  | .enrol => .enrol src
  | .amend => .amend src
  | .retire => .retire src
  | .changeover => .changeover src
  | .cancelChangeover => .cancelChangeover src
  | .confirmSupply => .confirmSupply src
  | .dipEntry => .dipEntry src
  | .reseatFeeder => .reseatFeeder src
  | .startPass => .startPass src
  | .openDelivery => .openDelivery src
  | .nominate => .nominate src
  | .suspendDelivery => .suspendDelivery src
  | .resumeDelivery => .resumeDelivery src
  | .skipNomination => .skipNomination src
  | .abandonDelivery => .abandonDelivery src
  | .collectDocket => .collectDocket src
  | .closePeriod => .closePeriod src
  | .collectStatement => .collectStatement src
  | .takeNotice => .takeNotice src

/-- The command that dispatches a frame from slot `n` (R187). -/
def Message.command (m : Message) (n : Nat) : Instr :=
  match m with
  | .request k => k.command (.slot n)
  | .state _ _ => .state n
  | .syncOk => .syncOk n
  | .inputs _ => .inputs n
  | .level _ => .level n
  | .reading _ => .reading n
  | .bowserMeter _ => .bowserMeter n
  | .hoseDone _ => .hoseDone n
  | .result _ _ => .result n
  | .valveShut _ _ => .valveShutReply n
  | .unknown => .unknownKindFrame n

/-- The command for the request that waits in the request slot (R192). -/
def State.requestWork (s : State) : Option Instr :=
  (s.port.request.bind (fun q => ReqKind.ofCode q.kind)).map (fun k => k.command .port)

/-- The command for the oldest frame that waits in an inbound slot (R187). -/
def State.slotWork (s : State) : Option Instr :=
  s.line.slots.head?.map (fun t => (t.frame.message t.closes).command t.number)

/-- A command, where its deadline is present and reached at `now`. -/
def dueIf (d : Option Nat) (now : Nat) (c : Instr) : List Instr := if reached d now then [c] else []

/-- The deadlines of a bus that have come. -/
def BusRec.due (b : BusRec) (n now : Nat) : List Instr :=
  dueIf b.warmUp now (.warmUpDeadline n) ++ dueIf b.fuelWait now (.fuelWaitDeadline n)
    ++ dueIf b.phase now (.phaseDeadline n)

/-- The deadlines of a delivery context that have come. -/
def Ctx.due (c : Ctx) (n now : Nat) : List Instr :=
  dueIf c.gathering now (.gatheringDeadline n) ++ dueIf c.fill now (.fillDeadline n)
    ++ dueIf c.settle now (.settleDeadline n)

/-- Every event of the clock that has come at `now`, in the order the model takes events of one second
(log 2). -/
def State.dueEvents (s : State) (now : Nat) : List Instr :=
  List.replicate (now / 60 - s.minutesTaken) .minuteTick
    ++ dueIf s.pass.scanDeadline now .scanDeadline
    ++ s.sets.flatMap (fun e => dueIf e.2.coolDeadline now (.coolDownDeadline e.1))
    ++ s.buses.flatMap (fun e => e.2.due e.1 now)
    ++ s.ctx1.due 1 now ++ s.ctx2.due 2 now

/-- A second passes; events fall due unless RESET is asserted (00_scope.md, "The site clock"; R159, R199). -/
def tick (s : State) : Host.Outcome State Fault Refusal :=
  if s.clock < Config.max32 then
    let now := s.clock + 1
    .next ((s.setClock now).setPending (if s.resetHeld then [] else s.dueEvents now))
  else .fault .siteClockExhausted

/-- The step on an empty queue (log 1). -/
def idleStep (s : State) : Host.Outcome State Fault Refusal :=
  match s.requestWork, s.slotWork with
  | some c, _ => .next (s.setPending [c])
  | none, some c => .next (s.setPending [c])
  | none, none => tick s

end Sys2Proof.Machine
end

