-- ==== Sys2Proof/Machine/Dispatch.lean ====
section
/-! DEFINITION. The meaning of each command: one arm for each row of spec/opcode_table.json. -/

namespace Sys2Proof.Machine

def exec (i : Instr) (s : State) : Host.Outcome State Fault Refusal :=
  match i with
  | .coldStart => Sys2Proof.Machine.execColdStart s
  | .lineReset => Sys2Proof.Machine.execLineReset s
  | .lineResetRelease => Sys2Proof.Machine.execLineResetRelease s
  | .read clocked => Sys2Proof.Machine.execRead clocked s
  | .write bytes extraBits => Sys2Proof.Machine.execWrite bytes extraBits s
  | .lookup src => Sys2Proof.Machine.execLookup src s
  | .find src => Sys2Proof.Machine.execFind src s
  | .enrol src => Sys2Proof.Machine.execEnrol src s
  | .amend src => Sys2Proof.Machine.execAmend src s
  | .retire src => Sys2Proof.Machine.execRetire src s
  | .changeover src => Sys2Proof.Machine.execChangeover src s
  | .cancelChangeover src => Sys2Proof.Machine.execCancelChangeover src s
  | .confirmSupply src => Sys2Proof.Machine.execConfirmSupply src s
  | .dipEntry src => Sys2Proof.Machine.execDipEntry src s
  | .reseatFeeder src => Sys2Proof.Machine.execReseatFeeder src s
  | .startPass src => Sys2Proof.Machine.execStartPass src s
  | .openDelivery src => Sys2Proof.Machine.execOpenDelivery src s
  | .nominate src => Sys2Proof.Machine.execNominate src s
  | .suspendDelivery src => Sys2Proof.Machine.execSuspendDelivery src s
  | .resumeDelivery src => Sys2Proof.Machine.execResumeDelivery src s
  | .skipNomination src => Sys2Proof.Machine.execSkipNomination src s
  | .abandonDelivery src => Sys2Proof.Machine.execAbandonDelivery src s
  | .collectDocket src => Sys2Proof.Machine.execCollectDocket src s
  | .closePeriod src => Sys2Proof.Machine.execClosePeriod src s
  | .collectStatement src => Sys2Proof.Machine.execCollectStatement src s
  | .takeNotice src => Sys2Proof.Machine.execTakeNotice src s
  | .frameReceive bytes => Sys2Proof.Machine.execFrameReceive bytes s
  | .receiveHoldExpiry => Sys2Proof.Machine.execReceiveHoldExpiry s
  | .state slot => Sys2Proof.Machine.execState slot s
  | .syncOk slot => Sys2Proof.Machine.execSyncOk slot s
  | .inputs slot => Sys2Proof.Machine.execInputs slot s
  | .level slot => Sys2Proof.Machine.execLevel slot s
  | .reading slot => Sys2Proof.Machine.execReading slot s
  | .bowserMeter slot => Sys2Proof.Machine.execBowserMeter slot s
  | .hoseDone slot => Sys2Proof.Machine.execHoseDone slot s
  | .result slot => Sys2Proof.Machine.execResult slot s
  | .valveShutReply slot => Sys2Proof.Machine.execValveShutReply slot s
  | .sendFrame contenders answer => Sys2Proof.Machine.execSendFrame contenders answer s
  | .sendHoldAnswer accepted => Sys2Proof.Machine.execSendHoldAnswer accepted s
  | .sendHoldExpiry => Sys2Proof.Machine.execSendHoldExpiry s
  | .replyDeadline node => Sys2Proof.Machine.execReplyDeadline node s
  | .minuteTick => Sys2Proof.Machine.execMinuteTick s
  | .scanDeadline => Sys2Proof.Machine.execScanDeadline s
  | .coolDownDeadline set => Sys2Proof.Machine.execCoolDownDeadline set s
  | .warmUpDeadline bus => Sys2Proof.Machine.execWarmUpDeadline bus s
  | .fuelWaitDeadline bus => Sys2Proof.Machine.execFuelWaitDeadline bus s
  | .phaseDeadline bus => Sys2Proof.Machine.execPhaseDeadline bus s
  | .gatheringDeadline ctx => Sys2Proof.Machine.execGatheringDeadline ctx s
  | .fillDeadline ctx => Sys2Proof.Machine.execFillDeadline ctx s
  | .settleDeadline ctx => Sys2Proof.Machine.execSettleDeadline ctx s
  | .unknownKindFrame slot => Sys2Proof.Machine.execUnknownKindFrame slot s

end Sys2Proof.Machine
end

