-- ==== Sys2Proof/Safety.lean ====
section
/-! DEFINITION. The terms the statements use: what every state the part reaches has, and what it means that a
request is taken up. -/

namespace Sys2Proof.Machine

/-! ## Invariants -/

/-- The control port: at most 32 notices, at most one of a coalescing kind for each subject, ATTN asserted while
one is queued, RDY while the response slot holds a response (R192, R195, R196). -/
def Port.ok (p : Port) : Prop :=
  p.notices.length ≤ Config.notices
    ∧ p.notices.Pairwise (fun a b => ¬ (a.kind.coalesces = true ∧ a.sameSubject b = true))
    ∧ p.attn = !p.notices.isEmpty ∧ p.rdy = p.response.isSome

/-- The outbound queue stands in order of class, with at most 12 frames in general entries and 4 in kept ones;
the order backlog holds at most 128 (R180, R181). -/
def Line.queuesOk (l : Line) : Prop :=
  l.queue.Pairwise (fun f g => f.cls.code ≤ g.cls.code)
    ∧ l.generalUsed ≤ Config.generalEntries ∧ l.keptUsed ≤ Config.keptEntries
    ∧ l.backlog.length ≤ Config.backlog

/-- Every table keeps its canonical form: numbers strictly rising, from 1 to the table's capacity (00_scope.md,
"Capacities"). -/
def State.tablesOk (s : State) : Bool :=
  Tbl.wf s.sets Config.sets && Tbl.wf s.tanks Config.tanks && Tbl.wf s.zones Config.zones
    && Tbl.wf s.buses Config.buses && Tbl.wf s.feeders Config.feeders && Tbl.wf s.accounts Config.accounts
    && Tbl.wf s.nodes Config.nodes

/-- The step keeps a property: it holds of every next state when it holds of the state. -/
def Kept (p : State → Prop) : Prop := ∀ s t : State, p s → step s = .next t → p t

/-! ## Requests -/

/-- The request of kind `k` that waits at a source and passes check 1: who asks, what, and the state in which it
is checked (R169, R174). -/
def State.takes (s : State) (k : ReqKind) : Source → Option (Party × Request × State)
  | .port =>
    match s.port.request with
    | some q => if ReqKind.ofCode q.kind = some k then some (.port, q, s) else none
    | none => none
  | .slot n =>
    match s.line.dispatchable n with
    | none => none
    | some t =>
      let u := s.onLine (Line.freeAt n)
      let node := t.frame.source
      if t.frame.message t.closes = .request k ∧ u.knownNode node = true ∧ barred k node u = false then
        t.frame.request.map (fun q => (.node node, q, u))
      else none

/-- A request of kind `k` waits at `src`, is checked in state `u`, and has the effective ring of `a`. -/
def Presents (s : State) (k : ReqKind) (src : Source) (a : Asked) (u : State) : Prop :=
  s.takes k src = some (a.party, a.req, u)
    ∧ effectiveRing (u.linkRing a.party) a.req.ring = some a.ring

/-- A request that names a record of a table by its index. -/
def Asked.names (a : Asked) (t : TableId) (n : Nat) : Prop :=
  a.req.table = t.code ∧ a.req.selector = 0 ∧ a.req.index = n ∧ n ≠ 0

/-- Ring 0, or a code that grants what the request needs (R171, R173). -/
def Asked.allowed (a : Asked) (c : AccessCode) (need : Need) : Prop := a.ring = 0 ∨ c.grants need = true

/-- What a command comes to, where it is an answer to a request. -/
def Answers (c : Instr) (s : State) (a : Asked) (x : Answered) : Prop := exec c s = .next (deliver a.party x)

/-- The answer DONE with a record's number and pairs, in a state that nothing has changed. -/
def shown (u : State) (n : Nat) (fields : List (Nat × Nat)) : Answered :=
  { state := u, response := { answer := .done, record := n, fields } }

/-- An answer that refuses (R175). -/
def Answer.refusal (x : Answer) : Bool :=
  match x with
  | .done | .doneAdjusted | .started | .empty => false
  | .noRecord | .noRoom | .duplicate | .collision | .inUse | .busy | .wrongState | .tooLate
  | .notPermitted | .ringInvalid | .outOfRange | .notCabled | .overRating | .tankBusy => true

/-! ## Reports -/

/-- The frame in inbound slot `n` may be dispatched, comes from a known node, says `m`, and closes no exchange;
`u` is the state in which its block takes it (R187). -/
def Reports (s : State) (n node : Nat) (m : Message) (u : State) : Prop :=
  ∃ t : Slot, s.line.dispatchable n = some t ∧ t.frame.source = node ∧ t.closes = none
    ∧ t.frame.message none = m ∧ u = s.onLine (Line.freeAt n) ∧ u.knownNode node = true

/-- The frame in inbound slot `n` may be dispatched, comes from a known node, says `m`, and closes the exchange
`e` with a reply of the kind that answers it (R184, R185). -/
def Replies (s : State) (n node : Nat) (m : Message) (e : Exchange) (u : State) : Prop :=
  ∃ t : Slot, s.line.dispatchable n = some t ∧ t.frame.source = node ∧ t.closes = some e
    ∧ t.frame.kind = replyKind e.kind ∧ t.frame.message (some e) = m
    ∧ u = s.onLine (Line.freeAt n) ∧ u.knownNode node = true

end Sys2Proof.Machine
end

