-- ==== Sys2Proof/Certificates/Slice0/Obligations.lean ====
section
/-! DEFINITION. The statements for the provers, chapter by chapter. -/

open Sys2Proof Sys2Proof.Machine

/-- For every command c and state s, a step of s with c put at the front of its queue is exec of c on s with the
rest of the queue. (00_scope.md, Terms and abbreviations (Event); 10_control_port_and_notices.md, R192) -/
def Obligations.StepRunsFrontCommand : Prop :=
  ∀ (c : Instr) (s : State), step (s.setPending (c :: s.pending)) = exec c s

/-- COLD_START answers a next state: both slots are empty, RDY deasserted, the marks clear; the notice queue
holds one notice, RESTARTED for the site with value 0 and time 0, and ATTN is asserted; every record holds
its cold-start value (the state is State.reset, with the queue of waiting commands kept). (R198) -/
def Obligations.ColdStartPort : Prop :=
  ∀ s : State, ∃ t : State, exec .coldStart s = .next t
    ∧ t.port.request = none ∧ t.port.response = none ∧ t.port.rdy = false
    ∧ t.port.overrun = false ∧ t.port.overflow = false
    ∧ t.port.notices = [{ kind := .restarted, table := .site, index := 1, value := some 0, time := 0 }]
    ∧ t.port.attn = true
    ∧ t = State.reset.setPending s.pending

/-- At cold start every set, tank, zone, bus and feeder record is FREE; account 1 alone is OPEN, with tag 1;
node 1 alone is IN_USE, with role EQUIPMENT and ring 0; both delivery contexts are IDLE with no deadline and
no nomination; the site record has its reset values; no pass runs and the scan deadline is 60; the outbound
queue, the backlog, the exchanges and the inbound slots are empty; the site clock reads 0.
(01_generator_sets.md, R1; 02_tanks_and_the_fuel_estimate.md, R21; 03_zones_buses_and_feeders.md, R45, R49,
R56; 04_metering_passes.md, R61; 06_fuel_deliveries.md, R114; 07_billing_periods.md, R139, R144;
08_requests_and_rights.md, R167; 09_the_site_line.md, R180, R186) -/
def Obligations.ColdStartRecords : Prop :=
  let s := State.reset
  s.sets = [] ∧ s.tagIndex = [] ∧ s.tanks = [] ∧ s.zones = [] ∧ s.buses = [] ∧ s.feeders = []
    ∧ s.accounts = [(1, { status := .opened, tag := 1 })]
    ∧ s.nodes = [(1, { role := .equipment, ring := 0 })]
    ∧ (∀ n, (s.ctx n).state = .idle ∧ (s.ctx n).noms = [] ∧ (s.ctx n).bowser = none
        ∧ (s.ctx n).docket = none ∧ (s.ctx n).opener = none ∧ (s.ctx n).gathering = none
        ∧ (s.ctx n).fill = none ∧ (s.ctx n).settle = none ∧ (s.ctx n).fillLeft = none
        ∧ (s.ctx n).byRequest = false ∧ (s.ctx n).byChangeover = false ∧ (s.ctx n).haltSent = false
        ∧ (s.ctx n).progress = 0 ∧ (s.ctx n).lastMeter = 0)
    ∧ s.site = { scanInterval := 60, periodLength := 60, minuteCount := 0, holdOption := false,
                 periodNumber := 1, periodStart := 0, closeState := .opened, unsourced := 0 }
    ∧ s.pass = { state := .idle, startTime := none, closing := false, polls := [], outstanding := 0,
                 scanDeadline := some 60 }
    ∧ s.line.queue = [] ∧ s.line.backlog = [] ∧ s.line.exchanges = [] ∧ s.line.slots = []
    ∧ s.clock = 0

/-- While RESET is not asserted, a READ of k bytes answers a next state that differs in the port alone. With a
response in the slot, PDO gives its frame from the first byte, and zeros beyond its end; when every byte has
been clocked out the slot is emptied and RDY is deasserted, and when the READ ends earlier the response
stays. With an empty slot PDO gives k zeros and nothing else changes. (10_control_port_and_notices.md, R193) -/
def Obligations.ReadTransaction : Prop :=
  ∀ (s : State) (k : Nat), s.resetHeld = false →
    (∀ r : Response, s.port.response = some r → r.bytes.length ≤ k →
      exec (.read k) s = .next { s with port := { s.port with
        response := none, rdy := false, pdo := r.bytes ++ List.replicate (k - r.bytes.length) 0 } })
    ∧ (∀ r : Response, s.port.response = some r → k < r.bytes.length →
      exec (.read k) s = .next { s with port := { s.port with pdo := r.bytes.take k } })
    ∧ (s.port.response = none →
      exec (.read k) s = .next { s with port := { s.port with pdo := List.replicate k 0 } })

/-- While RESET is not asserted, a WRITE (a transaction whose first byte is 01H) that ends while the request or
the response slot holds a frame changes nothing but the overrun mark, which is set; so a response that waits
does not carry it. The next response placed in the slot carries the mark as it stood, once, and the mark is
cleared by the placing. (R194) -/
def Obligations.WriteOccupied : Prop :=
  (∀ (s : State) (bytes : List Byte) (bits : Nat), s.resetHeld = false →
      (s.port.request.isSome ∨ s.port.response.isSome) →
      exec (.write (1 :: bytes) bits) s = .next { s with port := { s.port with overrun := true } })
    ∧ (∀ (p : Port) (r : Response), (p.respond r).response = some { r with overrun := p.overrun }
        ∧ (p.respond r).overrun = false)

/-- While RESET is not asserted and both slots are empty, a WRITE (first byte 01H) answers a next state that
differs in the port alone. A frame whose checks pass and whose kind is known enters the request slot. A
frame that fails a check (a bit count that is not whole bytes, a length field that is not the number of
bytes that followed it or is above 1,022, a field list that is not whole 6-byte pairs) is answered
OUT_OF_RANGE with no fields, and RDY is asserted. A sound frame of an unknown kind is answered RING_INVALID
when its claimed ring is not 0, 1 or 3, and else OUT_OF_RANGE. That both are answered within the WRITE
itself is the model's choice (log 35). Whatever the slots hold, a transaction whose first byte is neither
01H nor 02H, or that ends before its first byte is whole, changes nothing but PDO, which gives 0 over its
whole bytes; one that begins with 02H is the READ of the bytes after it (that a WRITE command may carry
these transactions is the model's choice, log 63). (10_control_port_and_notices.md, R192;
08_requests_and_rights.md, R161, R174) -/
def Obligations.WriteTaken : Prop :=
  ∀ (s : State) (bytes : List Byte) (bits : Nat), s.resetHeld = false →
    (s.port.request = none → s.port.response = none →
      (∀ q : Request, parseRequest bytes bits = some q → (ReqKind.ofCode q.kind).isSome →
        exec (.write (1 :: bytes) bits) s = .next { s with port := { s.port with request := some q } })
      ∧ (∀ q : Request, parseRequest bytes bits = some q → ReqKind.ofCode q.kind = none →
        exec (.write (1 :: bytes) bits) s = .next { s with port := { s.port with
          response := some { answer := if q.ring = 0 ∨ q.ring = 1 ∨ q.ring = 3 then .outOfRange
            else .ringInvalid, overrun := s.port.overrun }
          rdy := true, overrun := false } })
      ∧ (bits ≠ 0 ∨ bytes.length < 10 ∨ beNat (bytes.take 2) + 2 ≠ bytes.length
          ∨ 1022 < beNat (bytes.take 2) ∨ bytes.length % 6 ≠ 4 →
        exec (.write (1 :: bytes) bits) s = .next { s with port := { s.port with
          response := some { answer := .outOfRange, overrun := s.port.overrun }
          rdy := true, overrun := false } }))
    ∧ exec (.write [] bits) s = .next { s with port := { s.port with pdo := [] } }
    ∧ (∀ code : Byte, code ≠ 1 → code ≠ 2 → exec (.write (code :: bytes) bits) s =
        .next { s with port := { s.port with pdo := List.replicate (bytes.length + 1) 0 } })
    ∧ exec (.write (2 :: bytes) bits) s = exec (.read bytes.length) s

/-- A TAKE_NOTICE that waits in the request slot, with table 0 and a claimed ring of 0, 1 or 3, answers a next
state that differs in the port alone. With notices queued, the one at the head is removed; the response is
DONE with that notice, the number still queued and the overflow mark as it stood; ATTN stays asserted while
a notice is left. With none queued the response is EMPTY with the overflow mark. Either way the overflow
mark is cleared, and the response slot, RDY and the overrun mark are as for every response. Its index,
selector and field list may be anything; R197 leaves index, key and field list unread, and that the selector
is not read either is the model's choice (log 9). (10_control_port_and_notices.md, R195, R197) -/
def Obligations.TakeNotice : Prop :=
  ∀ (s : State) (q : Request), s.port.request = some q → q.kind = 21 → q.table = 0 →
    (q.ring = 0 ∨ q.ring = 1 ∨ q.ring = 3) →
    (∀ (n : Notice) (rest : List Notice), s.port.notices = n :: rest →
      exec (.takeNotice .port) s = .next { s with port := { s.port with
        request := none
        response := some { answer := .done, overrun := s.port.overrun, overflow := s.port.overflow,
                           notice := some (n, rest.length) }
        rdy := true, overrun := false, overflow := false, notices := rest, attn := !rest.isEmpty } })
    ∧ (s.port.notices = [] →
      exec (.takeNotice .port) s = .next { s with port := { s.port with
        request := none
        response := some { answer := .empty, overrun := s.port.overrun, overflow := s.port.overflow }
        rdy := true, overrun := false, overflow := false } })

/-- The eight coalescing kinds are those of R196. A notice of such a kind is not appended while the queue holds
one of its kind and subject, and then nothing of the port changes. Any other notice is appended at the tail
with ATTN asserted while the queue holds fewer than 32, and is dropped with the overflow mark set when it
holds 32. (10_control_port_and_notices.md, R195, R196) -/
def Obligations.NoticeQueued : Prop :=
  (∀ k : NoticeKind, k.coalesces = true ↔
      k ∈ [NoticeKind.lowFuel, .tankDry, .meterSuspect, .setSilent, .unknownNode, .drawPooled, .passOverrun,
        .overload])
    ∧ (∀ (n : Notice) (p : Port), n.kind.coalesces = true →
        (∃ m ∈ p.notices, m.kind = n.kind ∧ m.table = n.table ∧ m.index = n.index) → p.append n = p)
    ∧ (∀ (n : Notice) (p : Port),
        (n.kind.coalesces = false ∨
          ∀ m ∈ p.notices, ¬ (m.kind = n.kind ∧ m.table = n.table ∧ m.index = n.index)) →
        (p.notices.length < 32 → p.append n = { p with notices := p.notices ++ [n], attn := true })
        ∧ (32 ≤ p.notices.length → p.append n = { p with overflow := true }))

/-- LINE_RESET, while RESET is not yet asserted, answers a next state in which: RESET is held; the port is empty
with every flag, mark and notice gone; the line's queue, backlog, exchanges and slots are empty; the pass is
IDLE with no scan deadline; a close in CLOSING_PASS is DUE and every other site field is as it was; every
set keeps its status and op state and has silent count 0; no delivery context is active; every bus is in
STEADY, LOST or UNCERTAIN; no tank has its gauge deferred mark. The site clock, the zones, the accounts, the
nodes and the tag index are unchanged. (01_generator_sets.md, R20; 04_metering_passes.md, R81;
05_supply_changeover.md, R112; 06_fuel_deliveries.md, R137; 07_billing_periods.md, R159;
09_the_site_line.md, R190; 10_control_port_and_notices.md, R199) -/
def Obligations.LineReset : Prop :=
  ∀ s : State, s.resetHeld = false → ∃ t : State, exec .lineReset s = .next t
    ∧ t.resetHeld = true ∧ t.port = {} ∧ t.line = {}
    ∧ t.pass = { state := .idle, startTime := none, closing := false, polls := [], outstanding := 0,
                 scanDeadline := none }
    ∧ t.site = { s.site with closeState :=
        if s.site.closeState = .closingPass then .due else s.site.closeState }
    ∧ (∀ n, (t.set? n).map (fun r => (r.status, r.op)) = (s.set? n).map (fun r => (r.status, r.op))
        ∧ (t.setRec n).silentCount = 0)
    ∧ (∀ n, (t.ctx n).state = .idle ∨ (t.ctx n).state = .done)
    ∧ (∀ n, (t.busRec n).state = .steady ∨ (t.busRec n).state = .lost ∨ (t.busRec n).state = .uncertain)
    ∧ (∀ n, (t.tankRec n).gaugeDeferred = false)
    ∧ t.clock = s.clock ∧ t.zones = s.zones ∧ t.accounts = s.accounts ∧ t.nodes = s.nodes
    ∧ t.tagIndex = s.tagIndex ∧ t.pending = s.pending

/-- LINE_RESET_RELEASE, while RESET is held and the port is as the reset left it, answers a next state in which
RESET is no longer held, RESTARTED for the site with value 1 and the time of the release stands at the head
of the notice queue, ATTN is asserted, the slots are empty and RDY deasserted, and the scan deadline is the
site clock reading plus the scan interval. The clock, the zones, the nodes and the tag index are unchanged.
(04_metering_passes.md, R81; 01_generator_sets.md, R20; 10_control_port_and_notices.md, R199) -/
def Obligations.LineResetRelease : Prop :=
  ∀ s : State, s.resetHeld = true → s.port = {} → ∃ t : State, exec .lineResetRelease s = .next t
    ∧ t.resetHeld = false
    ∧ t.port.notices.head? =
        some { kind := .restarted, table := .site, index := 1, value := some 1, time := s.clock }
    ∧ t.port.attn = true ∧ t.port.request = none ∧ t.port.response = none ∧ t.port.rdy = false
    ∧ t.pass.scanDeadline = some (s.clock + s.site.scanInterval)
    ∧ t.clock = s.clock ∧ t.zones = s.zones ∧ t.nodes = s.nodes ∧ t.tagIndex = s.tagIndex
    ∧ t.pending = s.pending

/-- For every state in which the notice queue holds at most 32 notices and at most one of each coalescing kind
per subject, ATTN is asserted exactly while a notice is queued, and RDY exactly while the response slot
holds a response, the same holds of every next state of a step, whatever command waits.
(10_control_port_and_notices.md, R192, R193, R195, R196) -/
def Obligations.PortInvariantKept : Prop := Kept (fun s => s.port.ok)

/-- At cold start the port, the outbound queue with its backlog, and the tables are as the three invariants say.
(10_control_port_and_notices.md, R198; 09_the_site_line.md, R180; 00_scope.md, Capacities) -/
def Obligations.ResetInvariants : Prop :=
  State.reset.port.ok ∧ State.reset.line.queuesOk ∧ State.reset.tablesOk = true

/-- For every state whose set, tank, zone, bus, feeder, account and node tables list their records by strictly
rising numbers from 1 to the table's capacity, the same holds of every next state of a step, whatever
command waits. (00_scope.md, Capacities, Records and record numbers; 08_requests_and_rights.md, R161, R164,
R166) -/
def Obligations.TablesInvariantKept : Prop := Kept (fun s => s.tablesOk = true)

/-- For every state whose outbound queue stands in order of class with at most 12 frames in general entries and
4 in kept ones and whose backlog holds at most 128 frames, the same holds of every next state of a step,
whatever command waits. (09_the_site_line.md, R180, R181) -/
def Obligations.LineInvariantKept : Prop := Kept (fun s => s.line.queuesOk)

/-- For every frame with a destination from 0 to 62, a kind that fits a byte and a payload of at most 32 bytes,
the bytes the part drives parse, with their CRC, to that destination and to a frame of that class, source 1,
kind and payload. (10_control_port_and_notices.md, Formats (site line frame); 09_the_site_line.md, R178) -/
def Obligations.SiteFrameRoundTrip : Prop :=
  ∀ f : OutFrame, f.dest ≤ 62 → f.kind < 256 → f.payload.length ≤ 32 →
    parseFrame f.bytes =
      some (f.dest, { cls := f.cls, source := 1, kind := f.kind, payload := f.payload })

/-- While RESET is not asserted and no hold is running, FRAME_RECEIVE answers a next state that differs in the
line alone. A frame that fails its checks or is addressed to another node leaves the acknowledgement slot
empty. A sound frame for the part is answered ACK and takes the lowest-numbered free slot; a REPLY then
closes the exchange open with its source, which the slot remembers, and a frame of another class closes
none; that the slot is the lowest-numbered is the model's choice (log 83). With all four slots full it is
answered HOLD. (09_the_site_line.md, R178, R184, R186) -/
def Obligations.FrameReceive : Prop :=
  ∀ (s : State) (bytes : List Byte), s.resetHeld = false → s.line.rxHold = none → s.line.txHold = none →
    ((parseFrame bytes = none ∨ ∃ d f, parseFrame bytes = some (d, f) ∧ d ≠ 1) →
      exec (.frameReceive bytes) s = .next { s with line := { s.line with answered := .nothing } })
    ∧ (∀ (f : InFrame) (n : Nat), parseFrame bytes = some (1, f) → 1 ≤ n → n ≤ 4 →
        (∀ t ∈ s.line.slots, t.number ≠ n) →
        (∀ k, 1 ≤ k → k < n → ∃ t ∈ s.line.slots, t.number = k) →
        let e := s.line.exchanges.find? (fun x => x.dest = f.source)
        (f.cls ≠ .reply →
          exec (.frameReceive bytes) s = .next { s with line := { s.line with
            slots := s.line.slots ++ [{ number := n, frame := f, closes := none }], answered := .ack } })
        ∧ (f.cls = .reply →
          exec (.frameReceive bytes) s = .next { s with line := { s.line with
            slots := s.line.slots ++ [{ number := n, frame := f, closes := e }]
            exchanges := s.line.exchanges.filter (fun x => x.dest ≠ f.source), answered := .ack } }))
    ∧ (∀ f : InFrame, parseFrame bytes = some (1, f) →
        (∀ k, 1 ≤ k → k ≤ 4 → ∃ t ∈ s.line.slots, t.number = k) →
        exec (.frameReceive bytes) s = .next { s with line := { s.line with
          rxHold := some f, answered := .hold } })

/-- While RESET is not asserted, RECEIVE_HOLD_EXPIRY with a frame on hold answers REFUSE and discards the frame:
no slot, no exchange and nothing else of the state changes. (09_the_site_line.md, R186) -/
def Obligations.ReceiveHoldExpiry : Prop :=
  ∀ (s : State) (f : InFrame), s.resetHeld = false → s.line.rxHold = some f →
    exec .receiveHoldExpiry s = .next { s with line := { s.line with rxHold := none, answered := .refuse } }

/-- When the frame in a slot may be dispatched, is of a kind the part does not know (or says what its class and
kind do not allow), closes no exchange, and no frame is on hold, UNKNOWN_KIND_FRAME frees the slot. From a
known node nothing else changes; from an unknown node, or from address 1, an UNKNOWN_NODE notice is raised
with the address as its subject. (09_the_site_line.md, R187; 08_requests_and_rights.md, R169) -/
def Obligations.UnknownKindFrame : Prop :=
  ∀ (s : State) (n : Nat) (x : Slot), s.line.dispatchable n = some x → x.closes = none →
    x.frame.message none = .unknown → s.line.rxHold = none →
    let u : State := { s with line := { s.line with slots := s.line.slots.filter (fun y => y.number ≠ n) } }
    (x.frame.source ≠ 1 → (s.node? x.frame.source).isSome →
      exec (.unknownKindFrame n) s = .next u)
    ∧ (x.frame.source = 1 ∨ s.node? x.frame.source = none →
      exec (.unknownKindFrame n) s = .next (raise .unknownNode .nodes x.frame.source none u))

/-- While RESET is not asserted and no hold is running, let f be the first frame of the queue that is an
all-call or whose node has no open exchange. When another node drives a lower class (or the same class from
an address not above 1), nothing changes. When the part wins, the frame's bytes have been driven; an
all-call leaves the queue; ACK takes an ORDER or QUERY out of the queue and opens an exchange with its node,
and takes a REPLY out of the queue; HOLD starts the wait; REFUSE or nothing drops a REPLY. Nothing but the
line changes in these cases. (09_the_site_line.md, R179, R182, R183, R184, R189) -/
def Obligations.SendFrame : Prop :=
  ∀ (s : State) (others : List (Nat × Nat)) (f : OutFrame), s.resetHeld = false →
    s.line.rxHold = none → s.line.txHold = none → s.line.nextToSend = some f →
    let u := s.onLine (fun l => { l with sent := f.bytes })
    ((∃ c ∈ others, c.1 < f.cls.code ∨ (c.1 = f.cls.code ∧ c.2 ≤ 1)) →
      ∀ answer, exec (.sendFrame others answer) s = .next s)
    ∧ ((∀ c ∈ others, f.cls.code < c.1 ∨ (f.cls.code = c.1 ∧ 1 < c.2)) →
      (f.dest = 0 → ∀ answer, exec (.sendFrame others answer) s = .next (u.onLine (Line.leave f)))
      ∧ (f.dest ≠ 0 →
        ((f.cls = .order ∨ f.cls = .query) →
          exec (.sendFrame others .ack) s = .next (u.onLine (fun l => { Line.leave f l with
            exchanges := l.exchanges ++
              [{ id := f.id, dest := f.dest, kind := f.kind, purpose := f.purpose }] })))
        ∧ (f.cls = .reply →
          exec (.sendFrame others .ack) s = .next (u.onLine (Line.leave f))
          ∧ exec (.sendFrame others .refuse) s = .next (u.onLine (Line.leave f))
          ∧ exec (.sendFrame others .nothing) s = .next (u.onLine (Line.leave f)))
        ∧ exec (.sendFrame others .hold) s = .next (u.onLine (fun l => { l with txHold := some f.id }))))

/-- While RESET is not asserted and f is the frame whose destination holds, an ACK takes an ORDER or QUERY out
of the queue and opens an exchange with its node; a REFUSE and the expiry of the hold do the same thing, and
for an order sent with no reply awaited they take it out of the queue and change nothing else.
(09_the_site_line.md, R183, R184) -/
def Obligations.SendHold : Prop :=
  ∀ (s : State) (f : OutFrame), s.resetHeld = false → s.line.txHold = some f.id →
    s.line.queue.find? (fun g => g.id = f.id) = some f →
    ((f.cls = .order ∨ f.cls = .query) →
      exec (.sendHoldAnswer true) s = .next (s.onLine (fun l => { Line.leave f l with
        txHold := none
        exchanges := l.exchanges ++
          [{ id := f.id, dest := f.dest, kind := f.kind, purpose := f.purpose }] })))
    ∧ exec (.sendHoldAnswer false) s = exec .sendHoldExpiry s
    ∧ ((f.cls = .reply ∨ f.purpose = .nothing) →
      exec .sendHoldExpiry s = .next (s.onLine (fun l => { Line.leave f l with txHold := none })))

/-- While RESET is not asserted and an exchange is open with a node, REPLY_DEADLINE closes it. For an order sent
with no reply awaited and for ASK_LEVEL nothing else changes. For a boundary read in flight that serves no
pass poll, the feeder's unread mark is set, its boundary-wanted mark cleared and its read no longer in
flight, its points are kept, and nothing else changes (that this holds of a read a RESEAT_FEEDER has
overtaken too is the model's choice, log 77). With no exchange open nothing changes; that clause is the
model's choice (log 3). (09_the_site_line.md, R184; 02_tanks_and_the_fuel_estimate.md, R37;
04_metering_passes.md, R72, R80) -/
def Obligations.ReplyDeadline : Prop :=
  ∀ (s : State) (node : Nat), s.resetHeld = false →
    let u := s.onLine (fun l => { l with exchanges := l.exchanges.filter (fun x => x.dest ≠ node) })
    (s.line.exchangeWith node = none → exec (.replyDeadline node) s = .next s)
    ∧ (∀ e : Exchange, s.line.exchangeWith node = some e →
      (e.purpose = .nothing → exec (.replyDeadline node) s = .next u)
      ∧ (∀ tank serial, e.purpose = .askLevel tank serial → exec (.replyDeadline node) s = .next u)
      ∧ (∀ (n : Nat) (f : FeederRead), e.purpose = .readMeter n → (s.feederRec n).inFlight = some f →
        f.frame = e.id → f.boundary = true → f.servesPass = false →
        exec (.replyDeadline node) s = .next (u.updFeeder n (fun r =>
          { r with inFlight := none, unread := true, boundary := false }))))

/-- For every queue in order of class and every frame: put in as an ordinary frame it stands after every frame
of its class; put in as a boundary read it stands before every frame of its class; either way the queue is
still in order of class, and the frames of each other class stand as they did. (09_the_site_line.md, R180) -/
def Obligations.QueueOrder : Prop :=
  ∀ (q : List OutFrame) (f : OutFrame), q.Pairwise (fun a b => a.cls.code ≤ b.cls.code) →
    let sorted := fun p : List OutFrame => p.Pairwise (fun a b => a.cls.code ≤ b.cls.code)
    let only := fun (c : FrameClass) (p : List OutFrame) => p.filter (fun g => g.cls = c)
    sorted (queueBack q f) ∧ sorted (queueFront q f)
      ∧ only f.cls (queueBack q f) = only f.cls q ++ [f]
      ∧ only f.cls (queueFront q f) = f :: only f.cls q
      ∧ ∀ c, c ≠ f.cls → only c (queueBack q f) = only c q ∧ only c (queueFront q f) = only c q

/-- The link ring is 0 for the control port and the ring of the source's entry for a node. A claimed ring of 0,
1 or 3 gives the greater of the two numbers, never less than the link ring. With any other claim a request
of any kind, from any source that passes check 1, is refused RING_INVALID and nothing else is done. (R170) -/
def Obligations.EffectiveRing : Prop :=
  (∀ s : State, s.linkRing .port = 0 ∧ ∀ a, s.linkRing (.node a) = (s.nodeRec a).ring)
    ∧ (∀ link claimed, (claimed = 0 ∨ claimed = 1 ∨ claimed = 3) →
        effectiveRing link claimed = some (max link claimed) ∧ link ≤ max link claimed)
    ∧ (∀ (s u : State) (k : ReqKind) (src : Source) (p : Party) (q : Request),
        s.takes k src = some (p, q, u) → q.ring ≠ 0 → q.ring ≠ 1 → q.ring ≠ 3 →
        exec (k.command src) s = .next (deliver p { state := u, response := { answer := .ringInvalid } }))

/-- For every kind of request, taken from the control port: when the response in the slot afterwards is a
refusal, the state differs from the one before in the port alone. It holds whatever waits in the slot: with
no request of the kind there, nothing changes, which is the model's choice (log 3).
(08_requests_and_rights.md, R165, R174, R175) -/
def Obligations.RefusedRequestWritesNothing : Prop :=
  ∀ (k : ReqKind) (s t : State), exec (k.command .port) s = .next t →
    (∀ r : Response, t.port.response = some r → r.answer.refusal = true) →
    t = { s with port := t.port }

/-- When the frame in a slot may be dispatched, comes from a known node other than the part, and carries a
request of kind k, and the node's role is EQUIPMENT or k is TAKE_NOTICE, the slot is freed and an OUTCOME of
NOT_PERMITTED is offered to the node; nothing else is done. (08_requests_and_rights.md, R169;
09_the_site_line.md, R188) -/
def Obligations.EquipmentBarred : Prop :=
  ∀ (s : State) (k : ReqKind) (n : Nat) (x : Slot), s.line.dispatchable n = some x →
    x.frame.message x.closes = .request k → x.frame.source ≠ 1 → (s.node? x.frame.source).isSome →
    ((s.nodeRec x.frame.source).role = .equipment ∨ k = .takeNotice) →
    exec (k.command (.slot n)) s =
      .next (offerOutcome x.frame.source { answer := .notPermitted } (s.onLine (Line.freeAt n)))

/-- A LOOKUP at ring 0 that names a table and a record of it that is not FREE is answered DONE with the record's
number and every field as it stands, or the fields its field list names, in the record's own order, which is
the model's choice (log 45), as it is that a field named twice is accepted and returned once (log 81); a
field id the table does not hold is refused OUT_OF_RANGE. With index 0 it returns the header. No record
changes: the answer's state is the one in which the request was checked. (08_requests_and_rights.md, R162,
R163, R172) -/
def Obligations.LookupRecord : Prop :=
  ∀ (s u : State) (src : Source) (a : Asked) (t : TableId), Presents s .lookup src a u → a.ring = 0 →
    a.req.table = t.code → a.req.selector = 0 →
    (∀ pairs, a.req.index ≠ 0 → u.recordPairs t a.req.index = some pairs →
      (a.req.fields = [] → Answers (.lookup src) s a
        (shown u a.req.index pairs))
      ∧ (a.req.fields ≠ [] → (∀ p ∈ a.req.fields, p.1 ∈ t.fieldIds) → Answers (.lookup src) s a
        (shown u a.req.index (pairs.filter (fun p => p.1 ∈ a.req.fields.map Prod.fst))))
      ∧ ((∃ p ∈ a.req.fields, p.1 ∉ t.fieldIds) → Answers (.lookup src) s a
        (refuse .outOfRange u)))
    ∧ (a.req.index = 0 → a.req.fields = [] → Answers (.lookup src) s a
        (shown u 0 (u.header t)))

/-- A FIND with selector 1 on a table other than the node and site tables: when the key finds a record and the
ring has the right to read it, the answer is DONE with its number and every field (no field list given);
when the ring has no such right it is refused NOT_PERMITTED; when no record holds the key it is refused
NO_RECORD. No record changes. Zones are searched by tag, buses by switch panel node and feeders by meter
node. (08_requests_and_rights.md, R163, R172, R174; 03_zones_buses_and_feeders.md, R47, R49, R56) -/
def Obligations.FindByKey : Prop :=
  (∀ (s u : State) (src : Source) (a : Asked) (t : TableId), Presents s .find src a u →
    a.req.table = t.code → t ≠ .nodes → t ≠ .site → a.req.selector = 1 →
    (∀ n pairs, u.findKey t a.req.index = some n → u.recordPairs t n = some pairs → a.req.fields = [] →
      (a.mayReach t n .read u = true → Answers (.find src) s a
        (shown u n pairs))
      ∧ (a.mayReach t n .read u = false → Answers (.find src) s a
        (refuse .notPermitted u)))
    ∧ (u.findKey t a.req.index = none → Answers (.find src) s a
        (refuse .noRecord u)))
  ∧ (∀ (s : State) (key n : Nat), s.tablesOk = true →
      (s.findKey .zones key = some n → (s.zoneRec n).tag = key ∧ (s.zone? n).isSome)
      ∧ (s.findKey .buses key = some n → (s.busRec n).panel = key ∧ (s.bus? n).isSome)
      ∧ (s.findKey .feeders key = some n → (s.feederRec n).meter = key ∧ (s.feeder? n).isSome))

/-- ENROL on the node table at ring 0 with a role and a ring: an address outside 2 to 62, a role outside the
three or a ring other than 0, 1 or 3 is refused OUT_OF_RANGE; an address whose entry is IN_USE is refused
DUPLICATE; otherwise the entry becomes IN_USE with that role and ring, the answer is DONE, and nothing else
changes. That address 0 is refused OUT_OF_RANGE and not as a header is the model's choice (log 48), and the
role codes 0 to 2 are presumed, the model's choice too (log 5). (08_requests_and_rights.md, R164, R168) -/
def Obligations.EnrolNode : Prop :=
  ∀ (s u : State) (src : Source) (a : Asked) (role ring : Nat), Presents s .enrol src a u → a.ring = 0 →
    a.req.table = 8 → a.req.selector = 0 → a.req.fields = [(2, role), (3, ring)] →
    let n := a.req.index
    ((n < 2 ∨ 62 < n ∨ 2 < role ∨ (ring ≠ 0 ∧ ring ≠ 1 ∧ ring ≠ 3)) →
      Answers (.enrol src) s a (refuse .outOfRange u))
    ∧ (2 ≤ n → n ≤ 62 → (ring = 0 ∨ ring = 1 ∨ ring = 3) → ∀ r : NodeRole, NodeRole.ofCode role = some r →
      ((u.node? n).isSome →
        Answers (.enrol src) s a (refuse .duplicate u))
      ∧ (u.node? n = none →
        Answers (.enrol src) s a (accept .done .nodes n
          (u.onNodes (fun t => Tbl.put t n { role := r, ring := ring })))))

/-- AMEND of the site record at ring 0 naming the scan interval, period length and minute count, with no close
HELD: each is written at the nearest value of its range (10 to 600, 15 to 1440, 0 to 1439); the answer is
DONE when all lay in range and DONE_ADJUSTED when one did not; nothing else changes.
(08_requests_and_rights.md, R176, R177) -/
def Obligations.AmendSite : Prop :=
  ∀ (s u : State) (src : Source) (a : Asked) (x y z : Nat), Presents s .amend src a u → a.ring = 0 →
    a.names .site 1 → a.req.fields = [(1, x), (2, y), (3, z)] → u.site.closeState ≠ .held →
    let v := u.onSite (fun p => { p with
      scanInterval := max 10 (min 600 x), periodLength := max 15 (min 1440 y), minuteCount := min 1439 z })
    ((10 ≤ x ∧ x ≤ 600 ∧ 15 ≤ y ∧ y ≤ 1440 ∧ z ≤ 1439) → Answers (.amend src) s a (accept .done .site 1 v))
    ∧ (¬ (10 ≤ x ∧ x ≤ 600 ∧ 15 ≤ y ∧ y ≤ 1440 ∧ z ≤ 1439) →
        Answers (.amend src) s a (accept .doneAdjusted .site 1 v))

/-- ENROL on the set table at ring 0 with the tag, controller node, rated kW, five curve points and no-load rate
in range and the node held with role EQUIPMENT: a tag present in its bucket is refused DUPLICATE; when the
tag is in no bucket entry and no set names the node, a bucket of 2 entries refuses COLLISION; with room in
the bucket and no FREE record it is refused NO_ROOM, and with n the lowest FREE record it is answered DONE:
record n is IN_USE and STOPPED with the given fields, cool-down 300, last estimate time now and every other
field at its FREE value, and n is appended to the tag's bucket. The record also takes the next number of the
model's own count of enrolments and frames, which rises by 1: the model's choice (log 34). Nothing else
changes. (01_generator_sets.md, R2, R4, R5; 08_requests_and_rights.md, R164) -/
def Obligations.EnrolSet : Prop :=
  ∀ (s u : State) (src : Source) (a : Asked) (tag node kw c0 c1 c2 c3 c4 idle : Nat),
    Presents s .enrol src a u → a.ring = 0 → a.req.table = 1 → a.req.selector = 0 →
    a.req.fields = [(2, tag), (3, node), (4, kw), (261, c0), (517, c1), (773, c2), (1029, c3), (1285, c4),
      (6, idle)] →
    1 ≤ tag → tag ≤ 4294967295 → 2 ≤ node → node ≤ 62 →
    (∃ r, u.node? node = some r ∧ r.role = .equipment) → 10 ≤ kw → kw ≤ 1000 →
    (∀ c ∈ [c0, c1, c2, c3, c4], 100 ≤ c ∧ c ≤ 999) → idle ≤ 50000 →
    let bucket := u.bucket tag
    ((∃ n ∈ bucket, (u.setRec n).tag = tag) → Answers (.enrol src) s a (refuse .duplicate u))
    ∧ ((∀ n ∈ bucket, (u.setRec n).tag ≠ tag) → (∀ e ∈ u.sets, e.2.node ≠ node) →
      (2 ≤ bucket.length → Answers (.enrol src) s a (refuse .collision u))
      ∧ (bucket.length < 2 →
        (u.sets.lowestFree 48 = none → Answers (.enrol src) s a (refuse .noRoom u))
        ∧ (∀ n, u.sets.lowestFree 48 = some n →
          let r : SetRec :=
            { status := .inUse, tag, node, rated := kw, curve := ⟨c0, c1, c2, c3, c4⟩, noLoad := idle
              coolDown := 300, lastEstimate := u.clock, serial := u.nextId }
          Answers (.enrol src) s a (accept .done .sets n
            { u with
              nextId := u.nextId + 1
              sets := Tbl.put u.sets n r
              tagIndex := Tbl.put u.tagIndex (tag % 127) (bucket ++ [n]) }))))

/-- A STATE from a known node that closes no exchange: when no set is matched by source address and tag, nothing
changes but its slot. When it matches set n, the command answers a next state in which n's silent mark is
clear, its silent count 0, and its op state RUNNING, STOPPED or FAULT as reported, and unchanged when
STARTING or COOLING is reported; a set that leaves COOLING has no cool-down deadline; no other set changes
its op state; accounts, zones, nodes and the clock are unchanged. A report that leaves the op state as it
was changes only the mark and the count. (01_generator_sets.md, R11, R12; 09_the_site_line.md, R187) -/
def Obligations.StateReport : Prop :=
  ∀ (s u : State) (slot node tag : Nat) (op : OpState), Reports s slot node (.state tag op) u →
    ((∀ e ∈ u.sets, ¬ (e.2.node = node ∧ e.2.tag = tag)) → exec (.state slot) s = .next u)
    ∧ (∀ (n : Nat) (r : SetRec), u.setReporting node tag = some n → u.set? n = some r →
      let new := match op with
        | .running => OpState.running
        | .stopped => OpState.stopped
        | .fault => OpState.fault
        | .starting => r.op
        | .cooling => r.op
      (new = r.op → exec (.state slot) s =
        .next (u.updSet n (fun x => { x with silent := false, silentCount := 0 })))
      ∧ ∃ t : State, exec (.state slot) s = .next t
        ∧ (t.setRec n).silent = false ∧ (t.setRec n).silentCount = 0 ∧ (t.setRec n).op = new
        ∧ (r.op = .cooling → new ≠ .cooling → (t.setRec n).coolDeadline = none)
        ∧ (∀ m, m ≠ n → (t.setRec m).op = (u.setRec m).op)
        ∧ t.accounts = u.accounts ∧ t.zones = u.zones ∧ t.nodes = u.nodes ∧ t.clock = u.clock)

/-- A RESULT from a known node that closes the exchange of a COOL or STOP sent to set n, still the set enrolled
then, with record r. COOL accepted: RUNNING with supplies count 0 and no changeover bus, and named as
supplying set by no bus (as R83 has it of a set whose count is 0), the set becomes COOLING with a cool-down
deadline of now plus its cool-down; RUNNING otherwise, START is sent to cancel the cool-down and nothing
else changes; in any other op state nothing changes. STOP accepted: STARTING, RUNNING or COOLING becomes
STOPPED with no cool-down deadline; in STOPPED or FAULT nothing changes. Refused, neither changes anything.
A RESULT that answers an order sent with its reply not awaited changes nothing. (01_generator_sets.md, R13,
R14, R15, R17; 09_the_site_line.md, R184) -/
def Obligations.OrderResult : Prop :=
  ∀ (s u : State) (slot node n serial : Nat) (ok : Bool) (e : Exchange) (r : SetRec),
    Replies s slot node (.result ok none) e u → u.set? n = some r → r.serial = serial →
    (e.purpose = .cool n serial →
      (ok = true → r.op = .running → r.supplies = 0 → r.chBus = none →
        (∀ x ∈ u.buses, x.2.supplying ≠ some n) → ∃ t : State, exec (.result slot) s = .next t
          ∧ (t.setRec n).op = .cooling
          ∧ (t.setRec n).coolDeadline = some (u.clock + r.coolDown)
          ∧ (∀ m, m ≠ n → (t.setRec m).op = (u.setRec m).op) ∧ t.accounts = u.accounts)
      ∧ (ok = true → r.op = .running → (r.supplies ≠ 0 ∨ r.chBus ≠ none) →
        exec (.result slot) s = .next (sendStartCancel n u))
      ∧ (ok = false ∨ r.op ≠ .running → exec (.result slot) s = .next u))
    ∧ (e.purpose = .stop n serial →
      (ok = true → (r.op = .starting ∨ r.op = .running ∨ r.op = .cooling) →
        ∃ t : State, exec (.result slot) s = .next t ∧ (t.setRec n).op = .stopped
          ∧ (r.op = .cooling → (t.setRec n).coolDeadline = none)
          ∧ (∀ m, m ≠ n → (t.setRec m).op = (u.setRec m).op) ∧ t.accounts = u.accounts)
      ∧ (ok = false ∨ r.op = .stopped ∨ r.op = .fault → exec (.result slot) s = .next u))
    ∧ (e.purpose = .nothing → exec (.result slot) s = .next u)

/-- While RESET is not asserted: when the cool-down deadline of set n has been reached it is dropped and, with a
general entry free, a STOP frame to the set's controller node stands last of the ORDER class; the op state
stays and nothing else changes but the count of frame ids. When set n has no deadline, or one not yet
reached, nothing changes, which is the model's choice (log 3). (01_generator_sets.md, R15;
09_the_site_line.md, R180) -/
def Obligations.CoolDownDeadline : Prop :=
  ∀ (s : State) (n : Nat), s.resetHeld = false →
    (∀ (d : Nat) (r : SetRec), s.set? n = some r → r.coolDeadline = some d → d ≤ s.clock →
      s.line.generalUsed < 12 →
      let stop : OutFrame := { id := s.nextId, cls := .order, dest := r.node, kind := 34, payload := [],
                               purpose := .stop n r.serial }
      exec (.coolDownDeadline n) s = .next
        { s.updSet n (fun x => { x with coolDeadline := none }) with
          nextId := s.nextId + 1
          line := { s.line with queue := queueBack s.line.queue stop } })
    ∧ ((∀ d, (s.setRec n).coolDeadline = some d → s.clock < d) →
      exec (.coolDownDeadline n) s = .next s)

/-- While RESET is not asserted and a multiple of 60 that the clock has reached still waits for its tick: every
IN_USE and RETIRING set adds 1 to its hire minutes, and to its run minutes in STARTING, RUNNING or COOLING,
and the period minute count rises by 1. At or above the period length the count becomes 0 instead, and in
close state OPEN the close becomes DUE; in every other close state, and below the length, nothing else
changes. With no tick waiting nothing changes: the model's choice (log 3). That the sets' minutes are
counted before the period's match is the model's own reading (log 25, DEDUCED). (01_generator_sets.md, R19;
07_billing_periods.md, R145) -/
def Obligations.MinuteTick : Prop :=
  ∀ s : State, s.resetHeld = false →
    let counted : State := { s with
      minutesTaken := s.minutesTaken + 1
      sets := s.sets.map (fun e => (e.1, { e.2 with
        hireMin := e.2.hireMin + 1
        runMin := if e.2.op = .starting ∨ e.2.op = .running ∨ e.2.op = .cooling then e.2.runMin + 1
          else e.2.runMin })) }
    let count := s.site.minuteCount + 1
    (s.clock / 60 ≤ s.minutesTaken → exec .minuteTick s = .next s)
    ∧ (s.minutesTaken < s.clock / 60 →
      (count < s.site.periodLength → exec .minuteTick s =
        .next { counted with site := { s.site with minuteCount := count } })
      ∧ (s.site.periodLength ≤ count → s.site.closeState ≠ .opened → exec .minuteTick s =
        .next { counted with site := { s.site with minuteCount := 0 } })
      ∧ (s.site.periodLength ≤ count → s.site.closeState = .opened → exec .minuteTick s =
        .next (closeDue { counted with site := { s.site with minuteCount := 0 } })))

/-- For every curve and load fraction L: from 1000 on SFC is s4; below 1000, with k = L div 250, it is s_k plus
the quotient of (s_{k+1} - s_k) x (L - 250k) by 250 truncated toward zero, as an integer. On a falling
segment it never lies below the straight line between the points, and on a rising one never above it. (R29) -/
def Obligations.CurveValue : Prop :=
  ∀ (c : Curve) (l : Nat),
    let pt : Nat → Int := fun k => match k with
      | 0 => c.s0
      | 1 => c.s1
      | 2 => c.s2
      | 3 => c.s3
      | _ => c.s4
    let k := l / 250
    let product : Int := (pt (k + 1) - pt k) * ((l : Int) - 250 * k)
    (1000 ≤ l → c.sfc l = c.s4)
    ∧ (l < 1000 → (c.sfc l : Int) = pt k + product.tdiv 250
      ∧ (pt (k + 1) ≤ pt k → 250 * pt k + product ≤ 250 * (c.sfc l : Int))
      ∧ (pt k ≤ pt (k + 1) → 250 * (c.sfc l : Int) ≤ 250 * pt k + product))

/-- For a set n with record r, rated above 0, whose last estimate lies before the clock reading by dt seconds:
last average W is E x 3600 / dt; the whole millilitres and the new residue, below 1000, make up the old
residue, SFC x E with the load clamped to 1250 permille, and, in STARTING, RUNNING or COOLING, the idle
burn; period and total burnt rise by the whole millilitres; E is 0 and the last estimate time is now. The
recent rate moves a quarter of its distance to the instantaneous rate, truncated toward zero, where the
result lies in its range, and lies in its range in any case (what it is beyond the range is left free, log
49). The tank it names loses as much, the level saturating at 0 and the rest going to the shortfall
(saturating at 32 bits). Every other set and tank, the accounts, feeders and buses are unchanged. With dt 0
nothing changes. (02_tanks_and_the_fuel_estimate.md, R27, R28, R30, R31, R32) -/
def Obligations.BurnEstimate : Prop :=
  ∀ (s : State) (n : Nat) (r : SetRec), s.set? n = some r → 0 < r.rated →
    let dt := s.clock - r.lastEstimate
    let t := estimateSet n s
    let x := t.setRec n
    let whole := x.totalBurnt - r.totalBurnt
    (dt = 0 → t = s)
    ∧ (0 < dt →
      let watts := r.energy * 3600 / dt
      let load := r.curve.sfc (min (watts / r.rated) 1250) * r.energy
      let idle := if r.op = .starting ∨ r.op = .running ∨ r.op = .cooling then r.noLoad * dt * 5 / 18 else 0
      x.lastAvgW = watts ∧ x.residue < 1000 ∧ 1000 * whole + x.residue = r.residue + load + idle
      ∧ x.totalBurnt = r.totalBurnt + whole ∧ x.periodBurnt = r.periodBurnt + whole
      ∧ (let rate := (r.recentRate : Int) +
          Int.tdiv ((((load + idle) * 3600 / (dt * 1000) : Nat) : Int) - r.recentRate) 4
        (rate ≤ 4294967295 → (x.recentRate : Int) = rate) ∧ x.recentRate ≤ 4294967295)
      ∧ x.energy = 0 ∧ x.lastEstimate = s.clock ∧ x.op = r.op ∧ x.periodEnergy = r.periodEnergy
      ∧ (∀ k tank, r.tank = some k → s.tank? k = some tank →
        (t.tankRec k).level = tank.level - whole
        ∧ (t.tankRec k).shortfall = min (tank.shortfall + (whole - tank.level)) 4294967295)
      ∧ (∀ m, m ≠ n → t.set? m = s.set? m) ∧ (∀ k, r.tank ≠ some k → t.tank? k = s.tank? k)
      ∧ t.accounts = s.accounts ∧ t.feeders = s.feeders ∧ t.buses = s.buses)

/-- For a tank n with record r: when the mark is clear and the endurance is below the threshold, the mark is set
and LOW_FUEL naming the tank is raised with the endurance as its value; when the mark is set and the
endurance is at or above the threshold plus 30, the mark is cleared; in every other case nothing changes.
LOW_FUEL coalesces: while one for the tank waits, raising it changes nothing. (R41) -/
def Obligations.LowMark : Prop :=
  ∀ (s : State) (n : Nat) (r : TankRec), s.tank? n = some r →
    (r.lowMark = false → r.endurance < r.lowThreshold →
      evalLowMark n s = raise .lowFuel .tanks n (some r.endurance)
        (s.updTank n (fun x => { x with lowMark := true })))
    ∧ (r.lowMark = true → r.lowThreshold + 30 ≤ r.endurance →
      evalLowMark n s = s.updTank n (fun x => { x with lowMark := false }))
    ∧ ((r.lowMark = false ∧ r.lowThreshold ≤ r.endurance)
        ∨ (r.lowMark = true ∧ r.endurance < r.lowThreshold + 30) → evalLowMark n s = s)
    ∧ ((∃ m ∈ s.port.notices, m.kind = .lowFuel ∧ m.table = .tanks ∧ m.index = n) →
      ∀ v, raise .lowFuel .tanks n v s = s)

/-- After a reconciliation of tank n (record r) against a reading: the variance has risen by the reading less
the former level, saturating at both ends; the level is the reading or the capacity if less; the suspect
mark tells whether the reading exceeds the capacity; the shortfall is 0, the last gauge time now, the
deferred mark clear; the endurance is the new level x 60 / R, at most 1440, and 1440 when R is 0. Tag, gauge
node, capacity, overfill, filling mark, code and last fill time, every other tank, every set, feeder,
account, zone and node, and the site record are unchanged. With no bus in PENDING the buses, the line and
the deliveries are unchanged too. (02_tanks_and_the_fuel_estimate.md, R36, R39, R40, R41) -/
def Obligations.Reconciled : Prop :=
  ∀ (s : State) (n reading : Nat) (r : TankRec), s.tank? n = some r →
    let t := reconcileTank n reading s
    let x := t.tankRec n
    x.variance = max (-2147483647) (min (r.variance + ((reading : Int) - r.level)) 2147483647)
    ∧ x.level = min reading r.capacity ∧ (x.gaugeSuspect = true ↔ r.capacity < reading)
    ∧ x.shortfall = 0 ∧ x.lastGauge = some s.clock ∧ x.gaugeDeferred = false
    ∧ x.endurance = (if s.tankRate n = 0 then 1440
        else min (min reading r.capacity * 60 / s.tankRate n) 1440)
    ∧ x.tag = r.tag ∧ x.gauge = r.gauge ∧ x.capacity = r.capacity ∧ x.overfill = r.overfill
    ∧ x.filling = r.filling ∧ x.code = r.code ∧ x.lastFill = r.lastFill
    ∧ (∀ m, m ≠ n → t.tank? m = s.tank? m)
    ∧ t.sets = s.sets ∧ t.feeders = s.feeders ∧ t.accounts = s.accounts ∧ t.zones = s.zones
    ∧ t.nodes = s.nodes ∧ t.site = s.site
    ∧ ((∀ e ∈ s.buses, e.2.state ≠ .pending) →
      t.buses = s.buses ∧ t.line = s.line ∧ t.ctx1 = s.ctx1 ∧ t.ctx2 = s.ctx2)

/-- A LEVEL carries a reading from 0 to 4,294,967,295. A LEVEL from a known node that closes no exchange is
matched to the tank whose gauge node is its source. With the filling mark set the tank's gauge deferred mark
is set and nothing else changes; with it clear the tank is reconciled against the reading; a LEVEL that
matches no tank changes nothing but its slot. Whether a LEVEL or the acceptance of a FILL was taken first
shows in the filling mark. (R35) -/
def Obligations.LevelReport : Prop :=
  (∀ (f : InFrame) (c : Option Exchange) (ml : Nat), f.message c = .level ml → ml ≤ 4294967295)
  ∧ ∀ (s u : State) (slot node ml : Nat), Reports s slot node (.level ml) u →
    ((∀ e ∈ u.tanks, e.2.gauge ≠ some node) → exec (.level slot) s = .next u)
    ∧ (∀ n, u.tanks.numWhere (fun r => decide (r.gauge = some node)) = some n →
      ((u.tankRec n).filling = true → exec (.level slot) s =
        .next (u.updTank n (fun r => { r with gaugeDeferred := true })))
      ∧ ((u.tankRec n).filling = false → exec (.level slot) s = .next (reconcileTank n ml u)))

/-- A DIP_ENTRY that names a tank by its number and carries a level: without ring 0, READ_REQUEST or FULL it is
refused NOT_PERMITTED; else, while the filling mark is set, TANK_BUSY; else, above the capacity,
OUT_OF_RANGE; else it is answered DONE and the tank is reconciled with the level as the reading. That
TANK_BUSY comes before OUT_OF_RANGE is the model's choice (log 64). (02_tanks_and_the_fuel_estimate.md, R38;
08_requests_and_rights.md, R171, R172) -/
def Obligations.DipEntry : Prop :=
  ∀ (s u : State) (src : Source) (a : Asked) (n level : Nat) (r : TankRec), Presents s .dipEntry src a u →
    a.names .tanks n → a.req.fields = [(1, level)] → u.tank? n = some r →
    (¬ a.allowed r.code .request → Answers (.dipEntry src) s a (refuse .notPermitted u))
    ∧ (a.allowed r.code .request →
      (r.filling = true → Answers (.dipEntry src) s a (refuse .tankBusy u))
      ∧ (r.filling = false → r.capacity < level → Answers (.dipEntry src) s a (refuse .outOfRange u))
      ∧ (r.filling = false → level ≤ r.capacity →
        Answers (.dipEntry src) s a (accept .done .tanks n (reconcileTank n level u))))

/-- A RETIRE at ring 0 that names an IN_USE zone by its number: while its bus count is above 0 it is refused
IN_USE; otherwise it is answered DONE and the record is FREE at once, reading as R45 gives a FREE zone,
every other zone as it was, and nothing else changes. The answer carries the record number and the FREE
record's fields as they stand after the event (log 32 says how the model reads R175 here); that status FREE
and access code NONE are 0 in them is the model's choice (log 5), as it is that a field list is not read
(log 80). (03_zones_buses_and_feeders.md, R45, R48; 08_requests_and_rights.md, R166, R175) -/
def Obligations.RetireZone : Prop :=
  ∀ (s u : State) (src : Source) (a : Asked) (n : Nat) (r : ZoneRec), Presents s .retire src a u →
    a.ring = 0 → a.names .zones n → u.zone? n = some r →
    (0 < r.busCount → Answers (.retire src) s a (refuse .inUse u))
    ∧ (r.busCount = 0 → ∃ v : State,
      Answers (.retire src) s a { state := v, response :=
          { answer := .done, record := n, fields := [(1, 0), (2, 0), (3, 0), (4, 0), (5, 0), (6, 0)] } }
      ∧ v = { u with zones := v.zones } ∧ v.zone? n = none
      ∧ v.zoneRec n = { tag := 0, code1 := .none, code3 := .none, showHold := false, busCount := 0 }
      ∧ ∀ m, m ≠ n → v.zone? m = u.zone? m)

/-- A START_PASS on the site record: at another ring than 0 it is refused NOT_PERMITTED. At ring 0, taken in
IDLE, it is answered STARTED, in the state in which the scan deadline is now plus the scan interval and a
pass has been started; taken in RUNNING it is refused BUSY and nothing else is done, so no notice is raised
and the scan deadline and the pass stay. (R63) -/
def Obligations.StartPass : Prop :=
  ∀ (s u : State) (src : Source) (a : Asked), Presents s .startPass src a u → a.names .site 1 →
    a.req.fields = [] →
    (a.ring ≠ 0 → Answers (.startPass src) s a (refuse .notPermitted u))
    ∧ (a.ring = 0 → u.pass.state = .idle → ∃ v : State,
      Answers (.startPass src) s a (accept .started .site 1 v)
      ∧ v = startPass false
          { u with pass := { u.pass with scanDeadline := some (u.clock + u.site.scanInterval) } }
      ∧ v.pass.scanDeadline = some (u.clock + u.site.scanInterval))
    ∧ (a.ring = 0 → u.pass.state = .running → Answers (.startPass src) s a (refuse .busy u))

/-- While RESET is not asserted and the scan deadline has been reached: in RUNNING, PASS_OVERRUN is raised for
the site with the seconds since the pass started, and the deadline is now plus the interval; in IDLE the
deadline is set likewise and a pass starts. Starting a pass, with the tables in canonical form and at least
4 general entries free, makes the pass RUNNING from now, with every IN_USE feeder and then every IN_USE set
ascending less the first four on its list, and as many as four outstanding; with no feeder and no IN_USE set
it ends at once and the pass is IDLE. A deadline absent or not yet reached changes nothing, which is the
model's choice (log 3). (04_metering_passes.md, R62, R65, R66, R68) -/
def Obligations.ScanDeadline : Prop :=
  (∀ s : State, s.resetHeld = false →
    let again := s.clock + s.site.scanInterval
    ((∀ d, s.pass.scanDeadline = some d → s.clock < d) → exec .scanDeadline s = .next s)
    ∧ (∀ d, s.pass.scanDeadline = some d → d ≤ s.clock →
      (s.pass.state = .idle → exec .scanDeadline s =
        .next (startPass false { s with pass := { s.pass with scanDeadline := some again } }))
      ∧ (∀ t0, s.pass.state = .running → s.pass.startTime = some t0 → exec .scanDeadline s =
        .next ((raise .passOverrun .site 1 (some (s.clock - t0)) s).onPass
          (fun p => { p with scanDeadline := some again })))))
  ∧ (∀ (s : State) (closing : Bool), s.tablesOk = true →
    let polls := s.pollList
    let p := (startPass closing s).pass
    (polls ≠ [] → s.line.generalUsed + 4 ≤ 12 →
      p = { state := .running, startTime := some s.clock, closing, polls := polls.drop 4
            outstanding := min 4 polls.length, scanDeadline := s.pass.scanDeadline })
    ∧ (polls = [] → p.state = .idle ∧ p.startTime = none ∧ p.closing = false ∧ p.polls = []
      ∧ p.outstanding = 0))

/-- A READING that answers the READ_METER in flight for feeder n (not overtaken by a RESEAT_FEEDER and serving
no pass poll), dt seconds above 0 after the feeder's reference time: the delta is the reading less the
reference modulo 16,777,216, limited to rating x dt x 1250 / 3600; the reference, last delta and last
average W are written, the points emptied and the unread and boundary-wanted marks cleared; a delta above
the limit sets the suspect mark. The account's period Wh rises by the delta used, however the points (in
order of time) cut it. With no point pending, all of it goes to the supplying set of the feeder's bus, or to
unsourced Wh when there is none. Other feeders, other accounts and every bus, tank, zone and node are
unchanged. With dt 0 the unread and boundary-wanted marks alone are cleared. (04_metering_passes.md, R69,
R70, R71, R73, R78, R79) -/
def Obligations.ReadingApplied : Prop :=
  ∀ (s u : State) (slot node n count : Nat) (e : Exchange) (r : FeederRec) (f : FeederRead),
    Replies s slot node (.reading count) e u → e.purpose = .readMeter n → u.feeder? n = some r →
    r.inFlight = some f → f.frame = e.id → f.stale = false → f.servesPass = false →
    let dt := u.clock - r.refTime
    let delta := (count + 16777216 - r.refReading) % 16777216
    let used := min delta (r.rating * dt * 1250 / 3600)
    (dt = 0 → exec (.reading slot) s = .next (u.updFeeder n (fun x =>
      { x with inFlight := none, unread := false, boundary := false })))
    ∧ (0 < dt → ∃ t : State, exec (.reading slot) s = .next t
      ∧ t.feeder? n = some { r with
          refReading := count, refTime := u.clock, lastDelta := used, lastAvgW := used * 3600 / dt
          points := [], unread := false, boundary := false, inFlight := none
          suspect := r.suspect || decide (r.rating * dt * 1250 / 3600 < delta) }
      ∧ ((r.refTime :: r.points.map SwitchPoint.time).Pairwise (· ≤ ·) →
        (∀ p ∈ r.points, p.time ≤ u.clock) → ∀ x, u.account? r.account = some x →
        (t.accountRec r.account).periodWh = x.periodWh + used)
      ∧ (r.points = [] → (u.busRec r.bus).supplying = none → 0 < used →
        t.site.unsourced = u.site.unsourced + used ∧ t.sets = u.sets)
      ∧ (∀ (i : Nat) (x : SetRec), r.points = [] → (u.busRec r.bus).supplying = some i →
        u.set? i = some x → 0 < used →
        (t.setRec i).energy = x.energy + used ∧ (t.setRec i).periodEnergy = x.periodEnergy + used
        ∧ t.site = u.site ∧ ∀ m, m ≠ i → t.set? m = u.set? m)
      ∧ (∀ m, m ≠ n → t.feeder? m = u.feeder? m) ∧ (∀ m, m ≠ r.account → t.account? m = u.account? m)
      ∧ t.buses = u.buses ∧ t.tanks = u.tanks ∧ t.zones = u.zones ∧ t.nodes = u.nodes
      ∧ t.pass = u.pass ∧ t.line = u.line)

/-- For a delta read over dt seconds above 0 from a start time, and points whose times rise from the start to at
most the read time: the shares add up to the delta; there is one share more than there are points, each
named by its point's set-before and the last by the present supplier; every share but the last is delta x
segment seconds / dt, floor. A list of points never holds more than 2: a third replaces the second and sets
the estimated-split mark. (04_metering_passes.md, R76, R78) -/
def Obligations.EnergySplit : Prop :=
  (∀ (delta dt start : Nat) (points : List SwitchPoint) (supplier : Option Nat), 0 < dt →
    (start :: points.map SwitchPoint.time).Pairwise (· ≤ ·) → (∀ p ∈ points, p.time ≤ start + dt) →
    let shares := sharesOf delta dt start points supplier
    (shares.map Prod.snd).sum = delta
    ∧ shares.map Prod.fst = points.map SwitchPoint.setBefore ++ [supplier]
    ∧ ∀ (k : Nat) (p : SwitchPoint) (from_ : Nat), points[k]? = some p →
        (start :: points.map SwitchPoint.time)[k]? = some from_ →
        (shares[k]?).map Prod.snd = some (delta * (p.time - from_) / dt))
  ∧ (∀ (r : FeederRec) (p : SwitchPoint), r.points.length ≤ 2 →
    (r.addPoint p).points.length ≤ 2 ∧ (r.addPoint p).points.getLast? = some p
    ∧ (r.addPoint p).points.head? = some (r.points.headD p)
    ∧ ((r.addPoint p).estimated = true ↔ r.estimated = true ∨ r.points.length = 2))

/-- A RESEAT_FEEDER at ring 0 that names an IN_USE feeder and carries a meter count: a count above 16,777,215 is
refused OUT_OF_RANGE; otherwise it is answered DONE, the reference reading is the count and the reference
time now, the points list is empty, the suspect, unread, estimated-split and boundary-wanted marks are
clear, and a read in flight is kept and marked so that its reply is discarded (that it is kept in the record
so marked is the model's choice, log 38); last delta and last average W stay. No other feeder and nothing
else of the state changes: no set, account or unsourced Wh is credited. (04_metering_passes.md, R74) -/
def Obligations.ReseatFeeder : Prop :=
  ∀ (s u : State) (src : Source) (a : Asked) (n count : Nat) (r : FeederRec),
    Presents s .reseatFeeder src a u → a.ring = 0 → a.names .feeders n → a.req.fields = [(1, count)] →
    u.feeder? n = some r →
    (16777215 < count → Answers (.reseatFeeder src) s a (refuse .outOfRange u))
    ∧ (count ≤ 16777215 → ∃ v : State, Answers (.reseatFeeder src) s a (accept .done .feeders n v)
      ∧ v = { u with feeders := v.feeders }
      ∧ v.feeder? n = some { r with
          refReading := count, refTime := u.clock, points := [], suspect := false, unread := false
          estimated := false, boundary := false
          inFlight := r.inFlight.map (fun f => { f with stale := true }) }
      ∧ ∀ m, m ≠ n → v.feeder? m = u.feeder? m)

/-- A CHANGEOVER whose right on the bus is passed, with a set and a kind (1 CLOSED, 2 OPEN), on bus n with
record b, the named set's record i and the supplying set's o: the first check that fails, in the order of
R87, gives its refusal. When all pass it is answered STARTED in the state acceptChangeover gives. There,
when the set is not RUNNING, the bus is PENDING with that incoming set and kind, the source as requester,
fuel-wait deadline now + 600 and warm-up deadline now + 180, supplying the set it had; and the set has this
bus as changeover bus with role INCOMING, and is marked started-by-changeover if it was STOPPED.
(05_supply_changeover.md, R82, R86, R87, R88, R42) -/
def Obligations.ChangeoverRequest : Prop :=
  ∀ (s u : State) (src : Source) (a : Asked) (n set code : Nat) (kind : ChKind) (b : BusRec),
    Presents s .changeover src a u → a.names .buses n → a.req.fields = [(1, set), (2, code)] →
    ((code = 1 ∧ kind = .closed) ∨ (code = 2 ∧ kind = .opened)) → u.bus? n = some b →
    a.mayReach .buses n .request u = true →
    let i := u.setRec set
    let o := b.supplying.map u.setRec
    let checks : List (Bool × Answer) :=
      [ (decide (¬ (kind = .closed ∧ b.state = .lost)), .wrongState)
      , (decide (b.state = .steady ∨ b.state = .lost), .busy)
      , (decide ((u.zoneRec b.zone).showHold = false ∨ a.ring = 0), .notPermitted)
      , (decide (kind = .closed ∨ b.noBreak = false ∨ a.ring = 0), .notPermitted)
      , (decide (some set ∈ b.inputs), .notCabled)
      , (decide (i.status = .inUse ∧ i.op ≠ .fault ∧ i.silent = false), .wrongState)
      , (decide (b.supplying ≠ some set), .wrongState)
      , (decide (∀ x ∈ o, x.silent = false), .wrongState)
      , (decide ((i.pinned = false ∧ ∀ x ∈ o, x.pinned = false) ∨ a.ring = 0), .notPermitted)
      , (decide (i.chBus = none ∧ ∀ x ∈ o, x.chBus = none), .busy)
      , (decide (i.supplies < 8), .noRoom)
      , (decide (u.projectedLoad set n ≤ 1000), .overRating) ]
    let t := acceptChangeover n set kind a.party u
    (∀ x, firstFailing checks = some x → Answers (.changeover src) s a (refuse x u))
    ∧ (firstFailing checks = none → Answers (.changeover src) s a (accept .started .buses n t)
      ∧ (i.op ≠ .running →
        (t.busRec n).state = .pending ∧ (t.busRec n).incoming = some set
        ∧ (t.busRec n).kind = some kind ∧ (t.busRec n).requester = some a.party
        ∧ (t.busRec n).fuelWait = some (u.clock + 600) ∧ (t.busRec n).warmUp = some (u.clock + 180)
        ∧ (t.busRec n).supplying = b.supplying
        ∧ (t.setRec set).chBus = some n ∧ (t.setRec set).chRole = some .incoming
        ∧ (i.op = .stopped → (t.setRec set).startedByCh = true)
        ∧ t.feeders = u.feeders ∧ t.accounts = u.accounts ∧ t.tanks = u.tanks))

/-- A CANCEL_CHANGEOVER whose right on the bus is passed: at ring 1 or 3 from another source than the requester
it is refused NOT_PERMITTED; else in PENDING or SYNCING it aborts the changeover with reason CANCELLED and
is answered DONE; in STEADY or LOST it is refused WRONG_STATE, in every other state TOO_LATE. The abort
raises CHANGEOVER_ABORTED for the bus with the code 8 of CANCELLED: with room in the queue and no
arbitration before it the notice is queued, and in any case it is queued or the overflow mark is set. When
the bus had a supplying set RUNNING, it is then STEADY with that set, with no incoming set, kind, requester
or deadline; no supplies count has changed and no feeder has got a point. Otherwise it has no supplying set
and is LOST, or in an EMERGENCY changeover to its standby set; LOST with nothing of the changeover left when
it had no supplying set and no queued mark, and its standby set is absent or was the incoming set.
(05_supply_changeover.md, R99, R100) -/
def Obligations.CancelChangeover : Prop :=
  ∀ (s u : State) (src : Source) (a : Asked) (n : Nat) (b : BusRec), Presents s .cancelChangeover src a u →
    a.names .buses n → a.req.fields = [] → u.bus? n = some b → a.mayReach .buses n .request u = true →
    let told : Notice :=
      { kind := .changeoverAborted, table := .buses, index := n, value := some 8, time := u.clock }
    ((a.ring ≠ 0 ∧ b.requester ≠ some a.party) →
      Answers (.cancelChangeover src) s a (refuse .notPermitted u))
    ∧ ((a.ring = 0 ∨ b.requester = some a.party) →
      ((b.state = .steady ∨ b.state = .lost) →
        Answers (.cancelChangeover src) s a (refuse .wrongState u))
      ∧ ((b.state = .closingIn ∨ b.state = .overlap ∨ b.state = .opening ∨ b.state = .dead
          ∨ b.state = .uncertain) → Answers (.cancelChangeover src) s a (refuse .tooLate u))
      ∧ ((b.state = .pending ∨ b.state = .syncing) → ∃ t : State,
        Answers (.cancelChangeover src) s a (accept .done .buses n t)
        ∧ (u.port.notices.length < 32 →
          (b.supplying ≠ none ∨ b.standby = none ∨ b.standby = b.incoming) → told ∈ t.port.notices)
        ∧ (told ∈ t.port.notices ∨ t.port.overflow = true)
        ∧ ((∀ o, b.supplying = some o → (u.setRec o).op ≠ .running) →
          (t.busRec n).supplying = none
          ∧ ((t.busRec n).state = .lost
            ∨ ((t.busRec n).kind = some .emergency ∧ (t.busRec n).incoming = b.standby)))
        ∧ (b.supplying = none → b.queued = false → (b.standby = none ∨ b.standby = b.incoming) →
          t.bus? n = some { b with
            state := .lost, incoming := none, kind := none, requester := none, warmUp := none
            fuelWait := none, phase := none, step := none, awaited := none })
        ∧ (∀ o, b.supplying = some o → (u.setRec o).op = .running →
          t.bus? n = some { b with
            state := .steady, incoming := none, kind := none, requester := none, warmUp := none
            fuelWait := none, phase := none, step := none, awaited := none }
          ∧ (∀ m, (t.setRec m).supplies = (u.setRec m).supplies) ∧ t.feeders = u.feeders)))

/-- While RESET is not asserted: a warm-up or fuel-wait deadline reached in PENDING aborts with WARMUP_TIMEOUT
or FUEL_WAIT_TIMEOUT, and a phase deadline reached in SYNCING with SYNC_TIMEOUT; a deadline absent or not
yet reached changes nothing (the model's choice, log 3). Where the bus had a supplying set RUNNING, each of
these aborts leaves it STEADY with that set and nothing of the changeover, and raises CHANGEOVER_ABORTED
with the reason's code when the notice queue has room. A phase deadline reached in CLOSING_IN makes the bus
UNCERTAIN: it keeps its supplying and incoming sets, kind and requester, has no phase deadline, and no
supplies count changes. (05_supply_changeover.md, R90, R93, R94, R99, R108) -/
def Obligations.ChangeoverDeadlines : Prop :=
  ∀ (s : State) (n : Nat) (b : BusRec), s.resetHeld = false → s.bus? n = some b →
    let aborted (reason : Nat) (c : Instr) : Prop := ∃ t : State, exec c s = .next t
      ∧ ∀ o, b.supplying = some o → (s.setRec o).op = .running →
        t.bus? n = some { b with
          state := .steady, incoming := none, kind := none, requester := none, warmUp := none
          fuelWait := none, phase := none, step := none, awaited := none }
        ∧ (∀ m, (t.setRec m).supplies = (s.setRec m).supplies) ∧ t.feeders = s.feeders
        ∧ (s.port.notices.length < 32 →
          { kind := .changeoverAborted, table := .buses, index := n, value := some reason,
            time := s.clock } ∈ t.port.notices)
    (∀ d, d ≤ s.clock →
      (b.state = .pending → b.warmUp = some d → aborted 2 (.warmUpDeadline n))
      ∧ (b.state = .pending → b.fuelWait = some d → aborted 3 (.fuelWaitDeadline n))
      ∧ (b.state = .syncing → b.phase = some d → aborted 5 (.phaseDeadline n))
      ∧ (b.state = .closingIn → b.phase = some d → ∃ t : State, exec (.phaseDeadline n) s = .next t
        ∧ (t.busRec n).state = .uncertain ∧ (t.busRec n).phase = none ∧ (t.busRec n).step = none
        ∧ (t.busRec n).supplying = b.supplying ∧ (t.busRec n).incoming = b.incoming
        ∧ (t.busRec n).kind = b.kind ∧ (t.busRec n).requester = b.requester ∧ t.sets = s.sets
        ∧ t.feeders = s.feeders))
    ∧ ((∀ d, b.warmUp = some d → s.clock < d) → exec (.warmUpDeadline n) s = .next s)
    ∧ ((∀ d, b.fuelWait = some d → s.clock < d) → exec (.fuelWaitDeadline n) s = .next s)
    ∧ ((∀ d, b.phase = some d → s.clock < d) → exec (.phaseDeadline n) s = .next s)

/-- A SYNC_OK from a known node that closes no exchange: from a node of no set, or of a set whose changeover bus
is not in SYNCING with it as incoming, it changes nothing but its slot. From the incoming set of bus n in
SYNCING, with projected endurance at or above the required endurance: the bus is CLOSING_IN with phase
deadline now + 2, the set's supplies count rises by 1, and nothing else of the sets and other buses changes.
With less endurance the changeover is aborted; with a supplying set RUNNING the bus is then STEADY.
(05_supply_changeover.md, R83, R91, R93) -/
def Obligations.SyncOk : Prop :=
  ∀ (s u : State) (slot node : Nat), Reports s slot node .syncOk u →
    ((∀ e ∈ u.sets, e.2.node ≠ node) → exec (.syncOk slot) s = .next u)
    ∧ ∀ i, u.sets.numWhere (fun r => decide (r.node = node)) = some i →
      ((∀ n, (u.setRec i).chBus = some n →
          ¬ ((u.busRec n).state = .syncing ∧ (u.busRec n).incoming = some i)) →
        exec (.syncOk slot) s = .next u)
      ∧ (∀ (n : Nat) (b : BusRec) (r : SetRec), u.set? i = some r → r.chBus = some n →
        u.bus? n = some b → b.state = .syncing → b.incoming = some i →
        (b.required ≤ u.projectedEndurance i n → ∃ t : State, exec (.syncOk slot) s = .next t
          ∧ (t.busRec n).state = .closingIn ∧ (t.busRec n).phase = some (u.clock + 2)
          ∧ (t.busRec n).supplying = b.supplying ∧ (t.busRec n).incoming = some i
          ∧ t.set? i = some { r with supplies := r.supplies + 1 }
          ∧ (∀ m, m ≠ i → t.set? m = u.set? m) ∧ (∀ m, m ≠ n → t.bus? m = u.bus? m)
          ∧ t.feeders = u.feeders ∧ t.port = u.port)
        ∧ (u.projectedEndurance i n < b.required → ∃ t : State, exec (.syncOk slot) s = .next t
          ∧ ∀ o, b.supplying = some o → (u.setRec o).op = .running →
            (t.busRec n).state = .steady ∧ (t.busRec n).supplying = some o
            ∧ (t.busRec n).incoming = none ∧ t.feeders = u.feeders))

/-- An INPUTS from a panel node. Closing no exchange, it changes nothing but its slot when the node is no bus's
panel or that bus is not UNCERTAIN. As the reply to the order bus n awaits: in CLOSING_IN with the incoming
input closed the bus is in OVERLAP, step RELEASING, phase deadline now + 5; in OVERLAP, step RELEASING, with
the incoming input closed, the outgoing open and the incoming set RUNNING, the bus is STEADY with the
incoming set and nothing of the changeover, the outgoing set's supplies count has fallen by 1, and every
feeder of the bus has the point (now, outgoing set) appended as R76 says. (05_supply_changeover.md, R75,
R83, R84, R92, R94, R95, R96) -/
def Obligations.PanelInputs : Prop :=
  (∀ (s u : State) (slot node : Nat) (closed : List Bool), Reports s slot node (.inputs closed) u →
    (∀ n, u.buses.numWhere (fun r => decide (r.panel = node)) = some n → (u.busRec n).state ≠ .uncertain) →
    exec (.inputs slot) s = .next u)
  ∧ (∀ (s u : State) (slot node n inc out : Nat) (closed : List Bool) (e : Exchange) (b : BusRec),
    u.tablesOk = true → Replies s slot node (.inputs closed) e u → e.purpose = .panel n →
    u.buses.numWhere (fun r => decide (r.panel = node)) = some n → u.bus? n = some b →
    b.awaited = some e.id → b.incoming = some inc → b.supplying = some out → inc ≠ out →
    b.showsSet closed (some inc) = true →
    (b.state = .closingIn → ∃ t : State, exec (.inputs slot) s = .next t
      ∧ (t.busRec n).state = .overlap ∧ (t.busRec n).step = some .releasing
      ∧ (t.busRec n).phase = some (u.clock + 5) ∧ (t.busRec n).supplying = some out
      ∧ (t.busRec n).incoming = some inc ∧ t.sets = u.sets ∧ t.feeders = u.feeders ∧ t.port = u.port)
    ∧ (b.state = .overlap → b.step = some .releasing → b.showsSet closed (some out) = false →
      (u.setRec inc).op = .running → ∃ t : State, exec (.inputs slot) s = .next t
        ∧ t.bus? n = some { b with
            state := .steady, supplying := some inc, incoming := none, kind := none, requester := none
            warmUp := none, fuelWait := none, phase := none, step := none, awaited := none }
        ∧ (t.setRec out).supplies = (u.setRec out).supplies - 1
        ∧ (t.setRec inc).supplies = (u.setRec inc).supplies
        ∧ (∀ k r, u.feeder? k = some r → r.bus = n →
          (t.feederRec k).points = (r.addPoint { time := u.clock, setBefore := some out }).points)
        ∧ (∀ k r, u.feeder? k = some r → r.bus ≠ n → t.feeder? k = some r)
        ∧ t.accounts = u.accounts))

/-- A CONFIRM_SUPPLY on bus n naming a set: at ring 1 or 3 it is refused NOT_PERMITTED. At ring 0: WRONG_STATE
when the bus is not UNCERTAIN, whatever set is named (that this comes before the other two refusals of R111
is the model's choice, log 64); NOT_CABLED when the set stands at none of its positions; WRONG_STATE when it
is neither the supplying nor the incoming set. Naming the supplying set, RUNNING, of an UNCERTAIN bus with
another incoming set, it is answered DONE: the bus is STEADY with that set and nothing of the changeover,
the incoming set's supplies count has fallen by 1, the supplying set's is as it was, and no feeder has got a
point. (05_supply_changeover.md, R109, R111) -/
def Obligations.ConfirmSupply : Prop :=
  ∀ (s u : State) (src : Source) (a : Asked) (n set : Nat) (b : BusRec), Presents s .confirmSupply src a u →
    a.names .buses n → a.req.fields = [(1, set)] → u.bus? n = some b →
    (a.ring ≠ 0 → Answers (.confirmSupply src) s a (refuse .notPermitted u))
    ∧ (a.ring = 0 →
      (b.state ≠ .uncertain → Answers (.confirmSupply src) s a (refuse .wrongState u))
      ∧ (b.state = .uncertain → some set ∉ b.inputs →
        Answers (.confirmSupply src) s a (refuse .notCabled u))
      ∧ (b.state = .uncertain → some set ∈ b.inputs → b.supplying ≠ some set → b.incoming ≠ some set →
        Answers (.confirmSupply src) s a (refuse .wrongState u))
      ∧ (∀ inc, b.state = .uncertain → some set ∈ b.inputs →
        b.supplying = some set → b.incoming = some inc → inc ≠ set → (u.setRec set).op = .running → ∃ t : State,
        Answers (.confirmSupply src) s a (accept .done .buses n t)
        ∧ t.bus? n = some { b with
            state := .steady, incoming := none, kind := none, requester := none, warmUp := none
            fuelWait := none, phase := none, step := none, awaited := none, askFrame := none }
        ∧ (t.setRec inc).supplies = (u.setRec inc).supplies - 1
        ∧ (t.setRec set).supplies = (u.setRec set).supplies ∧ t.feeders = u.feeders))

/-- An OPEN_DELIVERY on an IN_USE tank, whose right is passed, with a bowser node, a docket number and perhaps a
target: the first check that fails in the order of R116 gives its refusal; else it is answered STARTED with
the lowest-numbered IDLE context, GATHERING, with the bowser, the source as opener, the docket, open time
now, gathering deadline now + 90 and one WAITING nomination, every other field as in IDLE (the serial is the
model's own). A NOMINATE of an IN_USE tank on a context, whose rights are passed: the first check that fails
in the order of R118 gives its refusal; else it is answered DONE, the nomination is appended and the
gathering deadline is now + 90. Nothing else changes. (06_fuel_deliveries.md, R115, R116, R117, R118) -/
def Obligations.OpenDelivery : Prop :=
  (∀ (s u : State) (src : Source) (a : Asked) (tank bowser docket : Nat) (target : Option Nat) (r : TankRec),
    Presents s .openDelivery src a u → a.names .tanks tank →
    a.req.fields = [(1, bowser), (2, docket)] ++ target.toList.map (fun v => (3, v)) →
    u.tank? tank = some r → a.mayReach .tanks tank .request u = true →
    let both : List Ctx := [u.ctx1, u.ctx2]
    let checks : List (Bool × Answer) :=
      [ (decide (2 ≤ bowser ∧ bowser ≤ 62 ∧ (u.node? bowser).isSome ∧ (u.nodeRec bowser).role = .handheld
          ∧ ∀ v ∈ target, 1 ≤ v ∧ v ≤ r.capacity), .outOfRange)
      , (decide (∀ c ∈ both, c.state.active = true → ∀ m ∈ c.noms, m.tank ≠ tank), .duplicate)
      , (decide (∀ c ∈ both, c.state.active = true → c.bowser ≠ some bowser), .duplicate)
      , (decide (∀ c ∈ both, c.state ≠ .idle → c.docket ≠ some docket), .duplicate)
      , (decide (∃ c ∈ both, c.state = .idle), .noRoom) ]
    let gathers : Ctx :=
      { state := .gathering, bowser := some bowser, opener := some a.party, docket := some docket
        openTime := some u.clock, gathering := some (u.clock + 90), noms := [{ tank, target }]
        serial := u.nextId }
    (∀ x, firstFailing checks = some x → Answers (.openDelivery src) s a (refuse x u))
    ∧ (firstFailing checks = none →
      (u.ctx1.state = .idle → Answers (.openDelivery src) s a
        (accept .started .deliveries 1 { u with ctx1 := gathers, nextId := u.nextId + 1 }))
      ∧ (u.ctx1.state ≠ .idle → Answers (.openDelivery src) s a
        (accept .started .deliveries 2 { u with ctx2 := gathers, nextId := u.nextId + 1 }))))
  ∧ (∀ (s u : State) (src : Source) (a : Asked) (n tank : Nat) (target : Option Nat) (r : TankRec),
    Presents s .nominate src a u → a.names .deliveries n → (n = 1 ∨ n = 2) →
    a.req.fields = [(1, tank)] ++ target.toList.map (fun v => (2, v)) → u.tank? tank = some r →
    a.mayReach .deliveries n .request u = true → a.mayReach .tanks tank .request u = true →
    let c := u.ctx n
    let checks : List (Bool × Answer) :=
      [ (decide (c.state = .gathering), .tooLate)
      , (decide (∀ v ∈ target, 1 ≤ v ∧ v ≤ r.capacity), .outOfRange)
      , (decide (∀ d ∈ [u.ctx1, u.ctx2], d.state.active = true → ∀ m ∈ d.noms, m.tank ≠ tank), .duplicate)
      , (decide (c.noms.length < 8), .noRoom) ]
    (∀ x, firstFailing checks = some x → Answers (.nominate src) s a (refuse x u))
    ∧ (firstFailing checks = none → Answers (.nominate src) s a (accept .done .deliveries n
      (u.updCtx n (fun d =>
        { d with noms := d.noms ++ [{ tank, target }], gathering := some (u.clock + 90) })))))

/-- SUSPEND_DELIVERY on context n, whose right is passed: GATHERING is voided, DELIVERY_VOID carrying the
docket; DISPENSING becomes SUSPENDING with BY_REQUEST, settle deadline now + 15, what is left of the fill
deadline kept, and VALVE_SHUT offered to the bowser; SUSPENDING and SUSPENDED gain BY_REQUEST; each is
answered DONE, and IDLE, STALLED and DONE are refused WRONG_STATE. RESUME_DELIVERY: DONE without a change in
IDLE, GATHERING and DISPENSING; WRONG_STATE in SUSPENDING and DONE; in SUSPENDED it clears BY_REQUEST, and
with no changeover cause and a FILLING nomination not halted the context is DISPENSING, its fill deadline
runs for what was left, and VALVE_OPEN is offered. In STALLED with a changeover cause and a nomination not
started, the context is SUSPENDED with 1,200 s of fill time and no order; that a nomination not started is
given this time is the model's choice (log 72). No tank, set or bus changes. (06_fuel_deliveries.md, R125,
R126, R128, R130) -/
def Obligations.SuspendResume : Prop :=
  ∀ (s u : State) (src : Source) (a : Asked) (n : Nat), a.names .deliveries n → (n = 1 ∨ n = 2) →
    a.req.fields = [] → a.mayReach .deliveries n .request u = true →
    let c := u.ctx n
    let ordered (kind : Nat) (p : Purpose) : Line := Line.offerOrder
      { id := u.nextId, cls := .order, dest := c.bowser.getD 0, kind, payload := [], purpose := p } u.line
    (Presents s .suspendDelivery src a u →
      (c.state = .gathering → Answers (.suspendDelivery src) s a (accept .done .deliveries n
        (raise .deliveryVoid .deliveries n c.docket (u.updCtx n (fun _ => {})))))
      ∧ (c.state = .dispensing → Answers (.suspendDelivery src) s a (accept .done .deliveries n
        { u.updCtx n (fun d =>
            { d with
              byRequest := true, state := .suspending, settle := some (u.clock + 15), fill := none
              fillLeft := (d.fill.map (· - u.clock)).or d.fillLeft }) with
          line := ordered 44 (.valveShut n c.serial), nextId := u.nextId + 1 }))
      ∧ ((c.state = .suspending ∨ c.state = .suspended) → Answers (.suspendDelivery src) s a
        (accept .done .deliveries n (u.updCtx n (fun d => { d with byRequest := true }))))
      ∧ ((c.state = .idle ∨ c.state = .stalled ∨ c.state = .done) →
        Answers (.suspendDelivery src) s a (refuse .wrongState u)))
    ∧ (Presents s .resumeDelivery src a u →
      ((c.state = .idle ∨ c.state = .gathering ∨ c.state = .dispensing) →
        Answers (.resumeDelivery src) s a (accept .done .deliveries n u))
      ∧ ((c.state = .suspending ∨ c.state = .done) →
        Answers (.resumeDelivery src) s a (refuse .wrongState u))
      ∧ (c.state = .suspended → c.byChangeover = true → Answers (.resumeDelivery src) s a
        (accept .done .deliveries n (u.updCtx n (fun d => { d with byRequest := false }))))
      ∧ (∀ m : Nomination, c.state = .suspended → c.byChangeover = false → c.currentNom = some m →
        m.status = .filling → c.haltSent = false → Answers (.resumeDelivery src) s a
        (accept .done .deliveries n
          { u.updCtx n (fun d =>
              { d with
                byRequest := false, state := .dispensing, fillLeft := none
                fill := some (u.clock + d.fillLeft.getD 0) }) with
            line := ordered 45 (.valveOpen n c.serial (c.current.getD 0)), nextId := u.nextId + 1 }))
      ∧ (c.state = .stalled → c.byChangeover = true → c.started = false →
        Answers (.resumeDelivery src) s a (accept .done .deliveries n (u.updCtx n (fun d =>
          { d with byRequest := false, state := .suspended, fillLeft := some 1200 })))))

/-- On context n, with the right passed. SKIP_NOMINATION outside STALLED is refused WRONG_STATE; in STALLED it
is answered DONE, the current nomination is SKIPPED, the context leaves STALLED with the halt mark clear,
and where it had started its delivered quantity is the last bowser meter less the start meter, which its
tank is credited (R33); not started and no other WAITING, the delivery ends COMPLETE. ABANDON_DELIVERY in
IDLE and DONE is refused WRONG_STATE; in an active state it is answered DONE: the delivery ends ABANDONED
and every WAITING nomination is SKIPPED with delivered 0. A started current nomination, FILLING or OVERRUN,
is UNVERIFIED with its metered quantity, which its tank is credited, and DELIVERY_DONE 2 is queued, or the
overflow mark set; with none, no tank, set or bus changes and DELIVERY_DONE 2 is the one notice.
COLLECT_DOCKET in DONE returns the docket and leaves the context IDLE; in every other state it is refused
WRONG_STATE. A delivery that ends has end time now, no current index, cause, deadline or halt mark, and
keeps bowser, opener, docket and open time. (06_fuel_deliveries.md, R127, R134, R135, R136;
02_tanks_and_the_fuel_estimate.md, R33) -/
def Obligations.EndDelivery : Prop :=
  ∀ (s u : State) (src : Source) (a : Asked) (n : Nat), a.names .deliveries n → (n = 1 ∨ n = 2) →
    a.req.fields = [] → a.mayReach .deliveries n .request u = true →
    let c := u.ctx n
    let ended (o : DocketOutcome) (noms : List Nomination) : Ctx :=
      { c with
        state := .done, endTime := some u.clock, outcome := some o, current := none, byRequest := false
        byChangeover := false, gathering := none, fill := none, fillLeft := none, settle := none
        haltSent := false, noms }
    let notice (v : Nat) : Notice :=
      { kind := .deliveryDone, table := .deliveries, index := n, value := some v, time := u.clock }
    let told (v : Nat) : Port := Port.append (notice v) u.port
    let skipped (noms : List Nomination) : List Nomination := noms.map (fun m =>
      if m.status = .waiting then { m with status := .skipped, delivered := 0 } else m)
    let credited (q ml : Nat) (r : TankRec) (t : State) : Prop :=
      (t.tankRec q).level = min (r.level + ml) r.capacity
      ∧ (t.tankRec q).overfill = min (r.overfill + (r.level + ml - r.capacity)) 4294967295
      ∧ (t.tankRec q).variance = 0 ∧ (t.tankRec q).lastFill = some u.clock
      ∧ (t.tankRec q).filling = false ∧ (t.tankRec q).shortfall = r.shortfall
      ∧ ∀ x, x ≠ q → t.tank? x = u.tank? x
    (Presents s .skipNomination src a u →
      (c.state ≠ .stalled → Answers (.skipNomination src) s a (refuse .wrongState u))
      ∧ (∀ (k : Nat) (m : Nomination), c.state = .stalled → c.current = some k → c.currentNom = some m →
        m.startMeter = none →
        (∀ (j : Nat) (x : Nomination), c.noms[j]? = some x → x.status = .waiting → c.current = some (j + 1)) →
        Answers (.skipNomination src) s a (accept .done .deliveries n
          { u.updCtx n (fun _ => ended .complete
              (c.noms.modify (k - 1) (fun x => { x with status := .skipped }))) with port := told 1 }))
      ∧ (∀ (k : Nat) (m : Nomination), c.state = .stalled → c.current = some k → c.currentNom = some m →
        ∃ t : State, Answers (.skipNomination src) s a (accept .done .deliveries n t)
        ∧ (t.ctx n).state ≠ .stalled ∧ (t.ctx n).haltSent = false
        ∧ (m.startMeter = none → (t.ctx n).noms[k - 1]? = some { m with status := .skipped }
          ∧ t.tanks = u.tanks)
        ∧ (∀ start : Nat, m.startMeter = some start →
          (t.ctx n).noms[k - 1]? =
            some { m with status := .skipped, delivered := c.lastMeter - start }
          ∧ ∀ r : TankRec, u.tank? m.tank = some r → credited m.tank (c.lastMeter - start) r t)))
    ∧ (Presents s .abandonDelivery src a u →
      (c.state.active = false → Answers (.abandonDelivery src) s a (refuse .wrongState u))
      ∧ (c.state.active = true → ∃ t : State,
        Answers (.abandonDelivery src) s a (accept .done .deliveries n t)
        ∧ (c.running = true → ∀ (k start : Nat) (m : Nomination), c.current = some k →
          c.currentNom = some m → m.startMeter = some start →
          t.ctx n = ended .abandoned (skipped (c.noms.modify (k - 1)
            (fun x => { x with status := .unverified, delivered := c.lastMeter - start })))
          ∧ (∀ r : TankRec, u.tank? m.tank = some r → credited m.tank (c.lastMeter - start) r t)
          ∧ (u.port.notices.length < 31 → notice 2 ∈ t.port.notices)
          ∧ (notice 2 ∈ t.port.notices ∨ t.port.overflow = true)
          ∧ t.accounts = u.accounts ∧ t.feeders = u.feeders ∧ t.site = u.site ∧ t.pass = u.pass)
        ∧ (c.running = false →
          t.ctx n = ended .abandoned (skipped c.noms)
          ∧ t.port = told 2 ∧ t.tanks = u.tanks ∧ t.sets = u.sets ∧ t.buses = u.buses
          ∧ t.feeders = u.feeders ∧ t.accounts = u.accounts ∧ t.site = u.site ∧ t.pass = u.pass)))
    ∧ (Presents s .collectDocket src a u →
      (c.state = .done → Answers (.collectDocket src) s a
        { state := u.updCtx n (fun _ => {})
          response := { answer := .done, record := n, fields := c.docketPairs } })
      ∧ (c.state ≠ .done → Answers (.collectDocket src) s a (refuse .wrongState u)))

/-- A BOWSER_METER or HOSE_DONE from a node whose address no dealing context has as bowser changes nothing but
its slot. From context n's bowser the last bowser meter becomes the greater of itself and the reading, and
the progress count advances by 1, 255 to 0, in DISPENSING and SUSPENDING only; a HOSE_DONE does no more when
the current nomination is not started, FILLING or OVERRUN. When it is, that nomination is FILLED with the
last bowser meter less the start meter, and its tank's level rises by that up to the capacity, the excess
going to the overfill, with variance 0, last fill time now and the filling mark clear. A VALVE_SHUT
acceptance for context n in SUSPENDING with a cause held makes it SUSPENDED, with the meter updated and no
settle deadline; refused, it changes nothing. (06_fuel_deliveries.md, R121, R122, R123, R129;
02_tanks_and_the_fuel_estimate.md, R33) -/
def Obligations.BowserReports : Prop :=
  (∀ (s u : State) (slot node ml : Nat),
    let metered (n : Nat) : State := u.updCtx n (fun c =>
      { c with
        lastMeter := max c.lastMeter ml
        progress := if c.state = .dispensing ∨ c.state = .suspending then (c.progress + 1) % 256
          else c.progress })
    (Reports s slot node (.bowserMeter ml) u →
      (u.bowserCtx node = none → exec (.bowserMeter slot) s = .next u)
      ∧ (∀ n, u.bowserCtx node = some n → exec (.bowserMeter slot) s = .next (metered n)))
    ∧ (Reports s slot node (.hoseDone ml) u →
      (u.bowserCtx node = none → exec (.hoseDone slot) s = .next u)
      ∧ (∀ n, u.bowserCtx node = some n →
        ((u.ctx n).running = false → exec (.hoseDone slot) s = .next (metered n))
        ∧ (∀ (k start : Nat) (m : Nomination) (r : TankRec), (u.ctx n).current = some k →
          (u.ctx n).currentNom = some m → m.startMeter = some start →
          (m.status = .filling ∨ m.status = .overrun) → u.tank? m.tank = some r → ∃ t : State,
          let d := max (u.ctx n).lastMeter ml - start
          exec (.hoseDone slot) s = .next t
          ∧ (t.ctx n).noms[k - 1]? = some { m with status := .filled, delivered := d }
          ∧ (t.tankRec m.tank).level = min (r.level + d) r.capacity
          ∧ (t.tankRec m.tank).overfill = min (r.overfill + (r.level + d - r.capacity)) 4294967295
          ∧ (t.tankRec m.tank).variance = 0 ∧ (t.tankRec m.tank).lastFill = some u.clock
          ∧ (t.tankRec m.tank).filling = false ∧ (t.tankRec m.tank).shortfall = r.shortfall
          ∧ (∀ q, q ≠ m.tank → t.tank? q = u.tank? q)
          ∧ t.accounts = u.accounts ∧ t.feeders = u.feeders ∧ t.site = u.site))))
  ∧ (∀ (s u : State) (slot node n ml : Nat) (meter : Option Nat) (accepted : Bool) (e : Exchange),
    Replies s slot node (.valveShut accepted meter) e u → (n = 1 ∨ n = 2) →
    e.purpose = .valveShut n (u.ctx n).serial →
    (accepted = false → exec (.valveShutReply slot) s = .next u)
    ∧ (accepted = true → meter = some ml → (u.ctx n).state = .suspending →
      ((u.ctx n).byRequest = true ∨ (u.ctx n).byChangeover = true) →
      exec (.valveShutReply slot) s = .next (u.updCtx n (fun c =>
        { c with lastMeter := max c.lastMeter ml, state := .suspended, settle := none }))))

/-- While RESET is not asserted, on context n. The gathering deadline reached in GATHERING, the first nomination
WAITING with a target v given, or computed above 0 as capacity x 95 / 100 less level, and its tank not
touched by switching: the context is DISPENSING on that nomination and FILL with the tank's tag and v is
offered to the bowser. The fill deadline reached in DISPENSING: the current nomination is OVERRUN, the
context STALLED with the halt sent mark and no deadline, HALT_FILL is offered and DELIVERY_STALLED carries
the progress count. The settle deadline reached in SUSPENDING with a cause held: the context is SUSPENDED
with no settle deadline. Nothing else changes. A deadline absent or not yet reached changes nothing (log 3),
none acts while RESET is asserted (log 46), and STALLED holds no fill time left and no settle deadline (log
27): these three clauses are the model's choice. (06_fuel_deliveries.md, R119, R120, R124, R129) -/
def Obligations.DeliveryDeadlines : Prop :=
  ∀ (s : State) (n : Nat), (n = 1 ∨ n = 2) →
    let c := s.ctx n
    let ordered (kind : Nat) (payload : List Byte) (p : Purpose) : Line := Line.offerOrder
      { id := s.nextId, cls := .order, dest := c.bowser.getD 0, kind, payload, purpose := p } s.line
    (s.resetHeld = true → exec (.gatheringDeadline n) s = .next s ∧ exec (.fillDeadline n) s = .next s
      ∧ exec (.settleDeadline n) s = .next s)
    ∧ (s.resetHeld = false →
      ((∀ d, c.gathering = some d → s.clock < d) → exec (.gatheringDeadline n) s = .next s)
      ∧ ((∀ d, c.fill = some d → s.clock < d) → exec (.fillDeadline n) s = .next s)
      ∧ ((∀ d, c.settle = some d → s.clock < d) → exec (.settleDeadline n) s = .next s)
      ∧ (∀ (d v : Nat) (m : Nomination), c.state = .gathering → c.gathering = some d → d ≤ s.clock →
        c.noms.head? = some m → m.status = .waiting → s.tankTouched m.tank = false → c.byRequest = false →
        (m.target = some v ∨ (m.target = none ∧ 0 < v
          ∧ v = (s.tankRec m.tank).capacity * 95 / 100 - (s.tankRec m.tank).level)) →
        exec (.gatheringDeadline n) s = .next
          { s.updCtx n (fun x =>
              { x with
                state := .dispensing, gathering := none, current := some 1, byChangeover := false
                noms := x.noms.modify 0 (fun y => { y with target := some v }) }) with
            line := ordered 43 (beBytes 4 (s.tankRec m.tank).tag ++ beBytes 4 v) (.fill n c.serial 1)
            nextId := s.nextId + 1 })
      ∧ (∀ d, c.state = .dispensing → c.fill = some d → d ≤ s.clock → exec (.fillDeadline n) s = .next
        { s.updCtx n (fun x =>
            { x.updCurrent (fun y => { y with status := .overrun }) with
              state := .stalled, haltSent := true, fill := none, fillLeft := none, settle := none }) with
          line := ordered 46 [] .nothing, nextId := s.nextId + 1
          port := Port.append
            { kind := .deliveryStalled, table := .deliveries, index := n, value := some c.progress
              time := s.clock } s.port })
      ∧ (∀ d, c.state = .suspending → c.settle = some d → d ≤ s.clock →
        (c.byRequest = true ∨ c.byChangeover = true) → exec (.settleDeadline n) s = .next
          (s.updCtx n (fun x => { x with state := .suspended, settle := none }))))

/-- A CLOSE_PERIOD on the site record at another ring than 0 is refused NOT_PERMITTED. At ring 0, taken in DUE,
CLOSING_PASS or HELD, it is refused BUSY and changes nothing. Taken in OPEN it is answered STARTED with
minute count 0 and close state CLOSING_PASS, in the state in which the running pass has taken the closing
mark, or, with no pass running, in that in which the scan deadline is now plus the scan interval and a
closing pass has been started. Nothing else changes in the first case. (07_billing_periods.md, R145, R147,
R148; 04_metering_passes.md, R64) -/
def Obligations.ClosePeriod : Prop :=
  ∀ (s u : State) (src : Source) (a : Asked), Presents s .closePeriod src a u → a.names .site 1 →
    a.req.fields = [] →
    let due : Site := { u.site with minuteCount := 0, closeState := .closingPass }
    (a.ring ≠ 0 → Answers (.closePeriod src) s a (refuse .notPermitted u))
    ∧ (a.ring = 0 →
      (u.site.closeState ≠ .opened → Answers (.closePeriod src) s a (refuse .busy u))
      ∧ (u.site.closeState = .opened →
        (u.pass.state = .running → Answers (.closePeriod src) s a
          (accept .started .site 1 { u with site := due, pass := { u.pass with closing := true } }))
        ∧ (u.pass.state = .idle → Answers (.closePeriod src) s a
          (accept .started .site 1 (startPass true
            { u with
              site := due
              pass := { u.pass with scanDeadline := some (u.clock + u.site.scanInterval) } })))))

/-- A COLLECT_STATEMENT on an account that is not FREE: with a code that grants no request, at another ring than
0, it is refused NOT_PERMITTED; with no statement held, WRONG_STATE. Otherwise it is answered DONE with the
statement's fields, collected mark set (that the mark is returned as already set is the model's choice, log
32), whether or not it was collected before; a CLOSED_OUT account becomes FREE and any other keeps the
statement, now collected, and all its other fields. Every other account, and everything else, is as it was,
but that a HELD close is examined after the answer. (07_billing_periods.md, R139, R158) -/
def Obligations.CollectStatement : Prop :=
  ∀ (s u : State) (src : Source) (a : Asked) (n : Nat) (r : AccountRec),
    Presents s .collectStatement src a u → a.names .accounts n → a.req.fields = [] → u.account? n = some r →
    (a.ring ≠ 0 → r.code.grants .request = false →
      Answers (.collectStatement src) s a (refuse .notPermitted u))
    ∧ (a.allowed r.code .request →
      (r.statement = none → Answers (.collectStatement src) s a (refuse .wrongState u))
      ∧ (∀ x : Statement, r.statement = some x → ∃ v : State,
        Answers (.collectStatement src) s a
          { state := v
            response :=
              { answer := .done, record := n, fields := ({ x with collected := true } : Statement).pairs }
            release := true }
        ∧ v = { u with accounts := v.accounts }
        ∧ (r.status = .closedOut → v.account? n = none)
        ∧ (r.status ≠ .closedOut →
          v.account? n = some { r with statement := some { x with collected := true } })
        ∧ ∀ m, m ≠ n → v.account? m = u.account? m))

/-- A set's final quotas add up to its period burnt. With no Wh drawn, all of it goes to account 1; else each
quota, the draw list entries in order and the pooled Wh for account 1 after them, gets its floor F x Wh / E
or one ml more, and a quota that gets one more has a remainder at least as large as any that does not, the
earlier entry first where equal. Writing the statements of a close gives account 1, and every OPEN or
RETIRING account with its drawn mark set, a statement with the period's number and start, now, its Wh, fuel
and charge (Wh x energy rate + ml x fuel rate + 50,000) / 100,000, uncollected, overwritten when one was
uncollected; every other account is as it was. (07_billing_periods.md, R153, R154, R155, R156) -/
def Obligations.FuelApportioned : Prop :=
  (∀ r : SetRec,
    (r.apportioned.map Prod.snd).sum = r.periodBurnt
    ∧ (r.drawnWh = 0 → 0 < r.periodBurnt → r.apportioned = [(1, r.periodBurnt)])
    ∧ (0 < r.drawnWh → 0 < r.periodBurnt →
      r.apportioned.map Prod.fst = r.quotas.map Quota.account
      ∧ ∀ (k : Nat) (q : Quota) (p : Nat × Nat), r.quotas[k]? = some q → r.apportioned[k]? = some p →
        (p.2 = r.periodBurnt * q.wh / r.drawnWh ∨ p.2 = r.periodBurnt * q.wh / r.drawnWh + 1)
        ∧ ∀ (j : Nat) (q' : Quota) (p' : Nat × Nat), r.quotas[j]? = some q' → r.apportioned[j]? = some p' →
          p.2 = r.periodBurnt * q.wh / r.drawnWh + 1 → p'.2 = r.periodBurnt * q'.wh / r.drawnWh →
          r.periodBurnt * q'.wh % r.drawnWh < r.periodBurnt * q.wh % r.drawnWh
          ∨ (r.periodBurnt * q'.wh % r.drawnWh = r.periodBurnt * q.wh % r.drawnWh ∧ k < j)))
  ∧ (∀ (s : State) (n : Nat) (x : AccountRec), s.account? n = some x →
    ((n = 1 ∨ (x.drawn = true ∧ (x.status = .opened ∨ x.status = .retiring))) →
      (writeStatements s).account? n = some { x with
        statement := some
          { period := s.site.periodNumber, startTime := s.site.periodStart, endTime := s.clock
            energy := x.periodWh, fuel := x.periodFuel
            charge := (x.periodWh * x.energyRate + x.periodFuel * x.fuelRate + 50000) / 100000
            collected := false, overwritten := x.statement.any (fun t => !t.collected) } })
    ∧ (¬ (n = 1 ∨ (x.drawn = true ∧ (x.status = .opened ∨ x.status = .retiring))) →
      (writeStatements s).account? n = some x))
end

