-- ==== Sys2Proof/Laws/State.lean ====
section
/-! SUPPORT. What every update of the state leaves in every field: one lemma a field and update, true by `rfl`,
so that no proof unfolds a record update. -/

namespace Sys2Proof.Machine

variable (s : State) (n : Nat)

/-! ## Updates of one field -/


section
variable (f : Tbl SetRec → Tbl SetRec)
@[simp] theorem State.onSets_clock : (s.onSets f).clock = s.clock := rfl
@[simp] theorem State.onSets_minutesTaken : (s.onSets f).minutesTaken = s.minutesTaken := rfl
@[simp] theorem State.onSets_resetHeld : (s.onSets f).resetHeld = s.resetHeld := rfl
@[simp] theorem State.onSets_nextId : (s.onSets f).nextId = s.nextId := rfl
@[simp] theorem State.onSets_sets : (s.onSets f).sets = f s.sets := rfl
@[simp] theorem State.onSets_tagIndex : (s.onSets f).tagIndex = s.tagIndex := rfl
@[simp] theorem State.onSets_tanks : (s.onSets f).tanks = s.tanks := rfl
@[simp] theorem State.onSets_zones : (s.onSets f).zones = s.zones := rfl
@[simp] theorem State.onSets_buses : (s.onSets f).buses = s.buses := rfl
@[simp] theorem State.onSets_feeders : (s.onSets f).feeders = s.feeders := rfl
@[simp] theorem State.onSets_accounts : (s.onSets f).accounts = s.accounts := rfl
@[simp] theorem State.onSets_nodes : (s.onSets f).nodes = s.nodes := rfl
@[simp] theorem State.onSets_ctx1 : (s.onSets f).ctx1 = s.ctx1 := rfl
@[simp] theorem State.onSets_ctx2 : (s.onSets f).ctx2 = s.ctx2 := rfl
@[simp] theorem State.onSets_site : (s.onSets f).site = s.site := rfl
@[simp] theorem State.onSets_pass : (s.onSets f).pass = s.pass := rfl
@[simp] theorem State.onSets_line : (s.onSets f).line = s.line := rfl
@[simp] theorem State.onSets_port : (s.onSets f).port = s.port := rfl
@[simp] theorem State.onSets_resetWork : (s.onSets f).resetWork = s.resetWork := rfl
@[simp] theorem State.onSets_pending : (s.onSets f).pending = s.pending := rfl
end

section
variable (f : Tbl (List Nat) → Tbl (List Nat))
@[simp] theorem State.onTagIndex_clock : (s.onTagIndex f).clock = s.clock := rfl
@[simp] theorem State.onTagIndex_minutesTaken : (s.onTagIndex f).minutesTaken = s.minutesTaken := rfl
@[simp] theorem State.onTagIndex_resetHeld : (s.onTagIndex f).resetHeld = s.resetHeld := rfl
@[simp] theorem State.onTagIndex_nextId : (s.onTagIndex f).nextId = s.nextId := rfl
@[simp] theorem State.onTagIndex_sets : (s.onTagIndex f).sets = s.sets := rfl
@[simp] theorem State.onTagIndex_tagIndex : (s.onTagIndex f).tagIndex = f s.tagIndex := rfl
@[simp] theorem State.onTagIndex_tanks : (s.onTagIndex f).tanks = s.tanks := rfl
@[simp] theorem State.onTagIndex_zones : (s.onTagIndex f).zones = s.zones := rfl
@[simp] theorem State.onTagIndex_buses : (s.onTagIndex f).buses = s.buses := rfl
@[simp] theorem State.onTagIndex_feeders : (s.onTagIndex f).feeders = s.feeders := rfl
@[simp] theorem State.onTagIndex_accounts : (s.onTagIndex f).accounts = s.accounts := rfl
@[simp] theorem State.onTagIndex_nodes : (s.onTagIndex f).nodes = s.nodes := rfl
@[simp] theorem State.onTagIndex_ctx1 : (s.onTagIndex f).ctx1 = s.ctx1 := rfl
@[simp] theorem State.onTagIndex_ctx2 : (s.onTagIndex f).ctx2 = s.ctx2 := rfl
@[simp] theorem State.onTagIndex_site : (s.onTagIndex f).site = s.site := rfl
@[simp] theorem State.onTagIndex_pass : (s.onTagIndex f).pass = s.pass := rfl
@[simp] theorem State.onTagIndex_line : (s.onTagIndex f).line = s.line := rfl
@[simp] theorem State.onTagIndex_port : (s.onTagIndex f).port = s.port := rfl
@[simp] theorem State.onTagIndex_resetWork : (s.onTagIndex f).resetWork = s.resetWork := rfl
@[simp] theorem State.onTagIndex_pending : (s.onTagIndex f).pending = s.pending := rfl
end

section
variable (f : Tbl TankRec → Tbl TankRec)
@[simp] theorem State.onTanks_clock : (s.onTanks f).clock = s.clock := rfl
@[simp] theorem State.onTanks_minutesTaken : (s.onTanks f).minutesTaken = s.minutesTaken := rfl
@[simp] theorem State.onTanks_resetHeld : (s.onTanks f).resetHeld = s.resetHeld := rfl
@[simp] theorem State.onTanks_nextId : (s.onTanks f).nextId = s.nextId := rfl
@[simp] theorem State.onTanks_sets : (s.onTanks f).sets = s.sets := rfl
@[simp] theorem State.onTanks_tagIndex : (s.onTanks f).tagIndex = s.tagIndex := rfl
@[simp] theorem State.onTanks_tanks : (s.onTanks f).tanks = f s.tanks := rfl
@[simp] theorem State.onTanks_zones : (s.onTanks f).zones = s.zones := rfl
@[simp] theorem State.onTanks_buses : (s.onTanks f).buses = s.buses := rfl
@[simp] theorem State.onTanks_feeders : (s.onTanks f).feeders = s.feeders := rfl
@[simp] theorem State.onTanks_accounts : (s.onTanks f).accounts = s.accounts := rfl
@[simp] theorem State.onTanks_nodes : (s.onTanks f).nodes = s.nodes := rfl
@[simp] theorem State.onTanks_ctx1 : (s.onTanks f).ctx1 = s.ctx1 := rfl
@[simp] theorem State.onTanks_ctx2 : (s.onTanks f).ctx2 = s.ctx2 := rfl
@[simp] theorem State.onTanks_site : (s.onTanks f).site = s.site := rfl
@[simp] theorem State.onTanks_pass : (s.onTanks f).pass = s.pass := rfl
@[simp] theorem State.onTanks_line : (s.onTanks f).line = s.line := rfl
@[simp] theorem State.onTanks_port : (s.onTanks f).port = s.port := rfl
@[simp] theorem State.onTanks_resetWork : (s.onTanks f).resetWork = s.resetWork := rfl
@[simp] theorem State.onTanks_pending : (s.onTanks f).pending = s.pending := rfl
end

section
variable (f : Tbl ZoneRec → Tbl ZoneRec)
@[simp] theorem State.onZones_clock : (s.onZones f).clock = s.clock := rfl
@[simp] theorem State.onZones_minutesTaken : (s.onZones f).minutesTaken = s.minutesTaken := rfl
@[simp] theorem State.onZones_resetHeld : (s.onZones f).resetHeld = s.resetHeld := rfl
@[simp] theorem State.onZones_nextId : (s.onZones f).nextId = s.nextId := rfl
@[simp] theorem State.onZones_sets : (s.onZones f).sets = s.sets := rfl
@[simp] theorem State.onZones_tagIndex : (s.onZones f).tagIndex = s.tagIndex := rfl
@[simp] theorem State.onZones_tanks : (s.onZones f).tanks = s.tanks := rfl
@[simp] theorem State.onZones_zones : (s.onZones f).zones = f s.zones := rfl
@[simp] theorem State.onZones_buses : (s.onZones f).buses = s.buses := rfl
@[simp] theorem State.onZones_feeders : (s.onZones f).feeders = s.feeders := rfl
@[simp] theorem State.onZones_accounts : (s.onZones f).accounts = s.accounts := rfl
@[simp] theorem State.onZones_nodes : (s.onZones f).nodes = s.nodes := rfl
@[simp] theorem State.onZones_ctx1 : (s.onZones f).ctx1 = s.ctx1 := rfl
@[simp] theorem State.onZones_ctx2 : (s.onZones f).ctx2 = s.ctx2 := rfl
@[simp] theorem State.onZones_site : (s.onZones f).site = s.site := rfl
@[simp] theorem State.onZones_pass : (s.onZones f).pass = s.pass := rfl
@[simp] theorem State.onZones_line : (s.onZones f).line = s.line := rfl
@[simp] theorem State.onZones_port : (s.onZones f).port = s.port := rfl
@[simp] theorem State.onZones_resetWork : (s.onZones f).resetWork = s.resetWork := rfl
@[simp] theorem State.onZones_pending : (s.onZones f).pending = s.pending := rfl
end

section
variable (f : Tbl BusRec → Tbl BusRec)
@[simp] theorem State.onBuses_clock : (s.onBuses f).clock = s.clock := rfl
@[simp] theorem State.onBuses_minutesTaken : (s.onBuses f).minutesTaken = s.minutesTaken := rfl
@[simp] theorem State.onBuses_resetHeld : (s.onBuses f).resetHeld = s.resetHeld := rfl
@[simp] theorem State.onBuses_nextId : (s.onBuses f).nextId = s.nextId := rfl
@[simp] theorem State.onBuses_sets : (s.onBuses f).sets = s.sets := rfl
@[simp] theorem State.onBuses_tagIndex : (s.onBuses f).tagIndex = s.tagIndex := rfl
@[simp] theorem State.onBuses_tanks : (s.onBuses f).tanks = s.tanks := rfl
@[simp] theorem State.onBuses_zones : (s.onBuses f).zones = s.zones := rfl
@[simp] theorem State.onBuses_buses : (s.onBuses f).buses = f s.buses := rfl
@[simp] theorem State.onBuses_feeders : (s.onBuses f).feeders = s.feeders := rfl
@[simp] theorem State.onBuses_accounts : (s.onBuses f).accounts = s.accounts := rfl
@[simp] theorem State.onBuses_nodes : (s.onBuses f).nodes = s.nodes := rfl
@[simp] theorem State.onBuses_ctx1 : (s.onBuses f).ctx1 = s.ctx1 := rfl
@[simp] theorem State.onBuses_ctx2 : (s.onBuses f).ctx2 = s.ctx2 := rfl
@[simp] theorem State.onBuses_site : (s.onBuses f).site = s.site := rfl
@[simp] theorem State.onBuses_pass : (s.onBuses f).pass = s.pass := rfl
@[simp] theorem State.onBuses_line : (s.onBuses f).line = s.line := rfl
@[simp] theorem State.onBuses_port : (s.onBuses f).port = s.port := rfl
@[simp] theorem State.onBuses_resetWork : (s.onBuses f).resetWork = s.resetWork := rfl
@[simp] theorem State.onBuses_pending : (s.onBuses f).pending = s.pending := rfl
end

section
variable (f : Tbl FeederRec → Tbl FeederRec)
@[simp] theorem State.onFeeders_clock : (s.onFeeders f).clock = s.clock := rfl
@[simp] theorem State.onFeeders_minutesTaken : (s.onFeeders f).minutesTaken = s.minutesTaken := rfl
@[simp] theorem State.onFeeders_resetHeld : (s.onFeeders f).resetHeld = s.resetHeld := rfl
@[simp] theorem State.onFeeders_nextId : (s.onFeeders f).nextId = s.nextId := rfl
@[simp] theorem State.onFeeders_sets : (s.onFeeders f).sets = s.sets := rfl
@[simp] theorem State.onFeeders_tagIndex : (s.onFeeders f).tagIndex = s.tagIndex := rfl
@[simp] theorem State.onFeeders_tanks : (s.onFeeders f).tanks = s.tanks := rfl
@[simp] theorem State.onFeeders_zones : (s.onFeeders f).zones = s.zones := rfl
@[simp] theorem State.onFeeders_buses : (s.onFeeders f).buses = s.buses := rfl
@[simp] theorem State.onFeeders_feeders : (s.onFeeders f).feeders = f s.feeders := rfl
@[simp] theorem State.onFeeders_accounts : (s.onFeeders f).accounts = s.accounts := rfl
@[simp] theorem State.onFeeders_nodes : (s.onFeeders f).nodes = s.nodes := rfl
@[simp] theorem State.onFeeders_ctx1 : (s.onFeeders f).ctx1 = s.ctx1 := rfl
@[simp] theorem State.onFeeders_ctx2 : (s.onFeeders f).ctx2 = s.ctx2 := rfl
@[simp] theorem State.onFeeders_site : (s.onFeeders f).site = s.site := rfl
@[simp] theorem State.onFeeders_pass : (s.onFeeders f).pass = s.pass := rfl
@[simp] theorem State.onFeeders_line : (s.onFeeders f).line = s.line := rfl
@[simp] theorem State.onFeeders_port : (s.onFeeders f).port = s.port := rfl
@[simp] theorem State.onFeeders_resetWork : (s.onFeeders f).resetWork = s.resetWork := rfl
@[simp] theorem State.onFeeders_pending : (s.onFeeders f).pending = s.pending := rfl
end

section
variable (f : Tbl AccountRec → Tbl AccountRec)
@[simp] theorem State.onAccounts_clock : (s.onAccounts f).clock = s.clock := rfl
@[simp] theorem State.onAccounts_minutesTaken : (s.onAccounts f).minutesTaken = s.minutesTaken := rfl
@[simp] theorem State.onAccounts_resetHeld : (s.onAccounts f).resetHeld = s.resetHeld := rfl
@[simp] theorem State.onAccounts_nextId : (s.onAccounts f).nextId = s.nextId := rfl
@[simp] theorem State.onAccounts_sets : (s.onAccounts f).sets = s.sets := rfl
@[simp] theorem State.onAccounts_tagIndex : (s.onAccounts f).tagIndex = s.tagIndex := rfl
@[simp] theorem State.onAccounts_tanks : (s.onAccounts f).tanks = s.tanks := rfl
@[simp] theorem State.onAccounts_zones : (s.onAccounts f).zones = s.zones := rfl
@[simp] theorem State.onAccounts_buses : (s.onAccounts f).buses = s.buses := rfl
@[simp] theorem State.onAccounts_feeders : (s.onAccounts f).feeders = s.feeders := rfl
@[simp] theorem State.onAccounts_accounts : (s.onAccounts f).accounts = f s.accounts := rfl
@[simp] theorem State.onAccounts_nodes : (s.onAccounts f).nodes = s.nodes := rfl
@[simp] theorem State.onAccounts_ctx1 : (s.onAccounts f).ctx1 = s.ctx1 := rfl
@[simp] theorem State.onAccounts_ctx2 : (s.onAccounts f).ctx2 = s.ctx2 := rfl
@[simp] theorem State.onAccounts_site : (s.onAccounts f).site = s.site := rfl
@[simp] theorem State.onAccounts_pass : (s.onAccounts f).pass = s.pass := rfl
@[simp] theorem State.onAccounts_line : (s.onAccounts f).line = s.line := rfl
@[simp] theorem State.onAccounts_port : (s.onAccounts f).port = s.port := rfl
@[simp] theorem State.onAccounts_resetWork : (s.onAccounts f).resetWork = s.resetWork := rfl
@[simp] theorem State.onAccounts_pending : (s.onAccounts f).pending = s.pending := rfl
end

section
variable (f : Tbl NodeRec → Tbl NodeRec)
@[simp] theorem State.onNodes_clock : (s.onNodes f).clock = s.clock := rfl
@[simp] theorem State.onNodes_minutesTaken : (s.onNodes f).minutesTaken = s.minutesTaken := rfl
@[simp] theorem State.onNodes_resetHeld : (s.onNodes f).resetHeld = s.resetHeld := rfl
@[simp] theorem State.onNodes_nextId : (s.onNodes f).nextId = s.nextId := rfl
@[simp] theorem State.onNodes_sets : (s.onNodes f).sets = s.sets := rfl
@[simp] theorem State.onNodes_tagIndex : (s.onNodes f).tagIndex = s.tagIndex := rfl
@[simp] theorem State.onNodes_tanks : (s.onNodes f).tanks = s.tanks := rfl
@[simp] theorem State.onNodes_zones : (s.onNodes f).zones = s.zones := rfl
@[simp] theorem State.onNodes_buses : (s.onNodes f).buses = s.buses := rfl
@[simp] theorem State.onNodes_feeders : (s.onNodes f).feeders = s.feeders := rfl
@[simp] theorem State.onNodes_accounts : (s.onNodes f).accounts = s.accounts := rfl
@[simp] theorem State.onNodes_nodes : (s.onNodes f).nodes = f s.nodes := rfl
@[simp] theorem State.onNodes_ctx1 : (s.onNodes f).ctx1 = s.ctx1 := rfl
@[simp] theorem State.onNodes_ctx2 : (s.onNodes f).ctx2 = s.ctx2 := rfl
@[simp] theorem State.onNodes_site : (s.onNodes f).site = s.site := rfl
@[simp] theorem State.onNodes_pass : (s.onNodes f).pass = s.pass := rfl
@[simp] theorem State.onNodes_line : (s.onNodes f).line = s.line := rfl
@[simp] theorem State.onNodes_port : (s.onNodes f).port = s.port := rfl
@[simp] theorem State.onNodes_resetWork : (s.onNodes f).resetWork = s.resetWork := rfl
@[simp] theorem State.onNodes_pending : (s.onNodes f).pending = s.pending := rfl
end

section
variable (f : Ctx → Ctx)
@[simp] theorem State.onCtx1_clock : (s.onCtx1 f).clock = s.clock := rfl
@[simp] theorem State.onCtx1_minutesTaken : (s.onCtx1 f).minutesTaken = s.minutesTaken := rfl
@[simp] theorem State.onCtx1_resetHeld : (s.onCtx1 f).resetHeld = s.resetHeld := rfl
@[simp] theorem State.onCtx1_nextId : (s.onCtx1 f).nextId = s.nextId := rfl
@[simp] theorem State.onCtx1_sets : (s.onCtx1 f).sets = s.sets := rfl
@[simp] theorem State.onCtx1_tagIndex : (s.onCtx1 f).tagIndex = s.tagIndex := rfl
@[simp] theorem State.onCtx1_tanks : (s.onCtx1 f).tanks = s.tanks := rfl
@[simp] theorem State.onCtx1_zones : (s.onCtx1 f).zones = s.zones := rfl
@[simp] theorem State.onCtx1_buses : (s.onCtx1 f).buses = s.buses := rfl
@[simp] theorem State.onCtx1_feeders : (s.onCtx1 f).feeders = s.feeders := rfl
@[simp] theorem State.onCtx1_accounts : (s.onCtx1 f).accounts = s.accounts := rfl
@[simp] theorem State.onCtx1_nodes : (s.onCtx1 f).nodes = s.nodes := rfl
@[simp] theorem State.onCtx1_ctx1 : (s.onCtx1 f).ctx1 = f s.ctx1 := rfl
@[simp] theorem State.onCtx1_ctx2 : (s.onCtx1 f).ctx2 = s.ctx2 := rfl
@[simp] theorem State.onCtx1_site : (s.onCtx1 f).site = s.site := rfl
@[simp] theorem State.onCtx1_pass : (s.onCtx1 f).pass = s.pass := rfl
@[simp] theorem State.onCtx1_line : (s.onCtx1 f).line = s.line := rfl
@[simp] theorem State.onCtx1_port : (s.onCtx1 f).port = s.port := rfl
@[simp] theorem State.onCtx1_resetWork : (s.onCtx1 f).resetWork = s.resetWork := rfl
@[simp] theorem State.onCtx1_pending : (s.onCtx1 f).pending = s.pending := rfl
end

section
variable (f : Ctx → Ctx)
@[simp] theorem State.onCtx2_clock : (s.onCtx2 f).clock = s.clock := rfl
@[simp] theorem State.onCtx2_minutesTaken : (s.onCtx2 f).minutesTaken = s.minutesTaken := rfl
@[simp] theorem State.onCtx2_resetHeld : (s.onCtx2 f).resetHeld = s.resetHeld := rfl
@[simp] theorem State.onCtx2_nextId : (s.onCtx2 f).nextId = s.nextId := rfl
@[simp] theorem State.onCtx2_sets : (s.onCtx2 f).sets = s.sets := rfl
@[simp] theorem State.onCtx2_tagIndex : (s.onCtx2 f).tagIndex = s.tagIndex := rfl
@[simp] theorem State.onCtx2_tanks : (s.onCtx2 f).tanks = s.tanks := rfl
@[simp] theorem State.onCtx2_zones : (s.onCtx2 f).zones = s.zones := rfl
@[simp] theorem State.onCtx2_buses : (s.onCtx2 f).buses = s.buses := rfl
@[simp] theorem State.onCtx2_feeders : (s.onCtx2 f).feeders = s.feeders := rfl
@[simp] theorem State.onCtx2_accounts : (s.onCtx2 f).accounts = s.accounts := rfl
@[simp] theorem State.onCtx2_nodes : (s.onCtx2 f).nodes = s.nodes := rfl
@[simp] theorem State.onCtx2_ctx1 : (s.onCtx2 f).ctx1 = s.ctx1 := rfl
@[simp] theorem State.onCtx2_ctx2 : (s.onCtx2 f).ctx2 = f s.ctx2 := rfl
@[simp] theorem State.onCtx2_site : (s.onCtx2 f).site = s.site := rfl
@[simp] theorem State.onCtx2_pass : (s.onCtx2 f).pass = s.pass := rfl
@[simp] theorem State.onCtx2_line : (s.onCtx2 f).line = s.line := rfl
@[simp] theorem State.onCtx2_port : (s.onCtx2 f).port = s.port := rfl
@[simp] theorem State.onCtx2_resetWork : (s.onCtx2 f).resetWork = s.resetWork := rfl
@[simp] theorem State.onCtx2_pending : (s.onCtx2 f).pending = s.pending := rfl
end

section
variable (f : Site → Site)
@[simp] theorem State.onSite_clock : (s.onSite f).clock = s.clock := rfl
@[simp] theorem State.onSite_minutesTaken : (s.onSite f).minutesTaken = s.minutesTaken := rfl
@[simp] theorem State.onSite_resetHeld : (s.onSite f).resetHeld = s.resetHeld := rfl
@[simp] theorem State.onSite_nextId : (s.onSite f).nextId = s.nextId := rfl
@[simp] theorem State.onSite_sets : (s.onSite f).sets = s.sets := rfl
@[simp] theorem State.onSite_tagIndex : (s.onSite f).tagIndex = s.tagIndex := rfl
@[simp] theorem State.onSite_tanks : (s.onSite f).tanks = s.tanks := rfl
@[simp] theorem State.onSite_zones : (s.onSite f).zones = s.zones := rfl
@[simp] theorem State.onSite_buses : (s.onSite f).buses = s.buses := rfl
@[simp] theorem State.onSite_feeders : (s.onSite f).feeders = s.feeders := rfl
@[simp] theorem State.onSite_accounts : (s.onSite f).accounts = s.accounts := rfl
@[simp] theorem State.onSite_nodes : (s.onSite f).nodes = s.nodes := rfl
@[simp] theorem State.onSite_ctx1 : (s.onSite f).ctx1 = s.ctx1 := rfl
@[simp] theorem State.onSite_ctx2 : (s.onSite f).ctx2 = s.ctx2 := rfl
@[simp] theorem State.onSite_site : (s.onSite f).site = f s.site := rfl
@[simp] theorem State.onSite_pass : (s.onSite f).pass = s.pass := rfl
@[simp] theorem State.onSite_line : (s.onSite f).line = s.line := rfl
@[simp] theorem State.onSite_port : (s.onSite f).port = s.port := rfl
@[simp] theorem State.onSite_resetWork : (s.onSite f).resetWork = s.resetWork := rfl
@[simp] theorem State.onSite_pending : (s.onSite f).pending = s.pending := rfl
end

section
variable (f : Pass → Pass)
@[simp] theorem State.onPass_clock : (s.onPass f).clock = s.clock := rfl
@[simp] theorem State.onPass_minutesTaken : (s.onPass f).minutesTaken = s.minutesTaken := rfl
@[simp] theorem State.onPass_resetHeld : (s.onPass f).resetHeld = s.resetHeld := rfl
@[simp] theorem State.onPass_nextId : (s.onPass f).nextId = s.nextId := rfl
@[simp] theorem State.onPass_sets : (s.onPass f).sets = s.sets := rfl
@[simp] theorem State.onPass_tagIndex : (s.onPass f).tagIndex = s.tagIndex := rfl
@[simp] theorem State.onPass_tanks : (s.onPass f).tanks = s.tanks := rfl
@[simp] theorem State.onPass_zones : (s.onPass f).zones = s.zones := rfl
@[simp] theorem State.onPass_buses : (s.onPass f).buses = s.buses := rfl
@[simp] theorem State.onPass_feeders : (s.onPass f).feeders = s.feeders := rfl
@[simp] theorem State.onPass_accounts : (s.onPass f).accounts = s.accounts := rfl
@[simp] theorem State.onPass_nodes : (s.onPass f).nodes = s.nodes := rfl
@[simp] theorem State.onPass_ctx1 : (s.onPass f).ctx1 = s.ctx1 := rfl
@[simp] theorem State.onPass_ctx2 : (s.onPass f).ctx2 = s.ctx2 := rfl
@[simp] theorem State.onPass_site : (s.onPass f).site = s.site := rfl
@[simp] theorem State.onPass_pass : (s.onPass f).pass = f s.pass := rfl
@[simp] theorem State.onPass_line : (s.onPass f).line = s.line := rfl
@[simp] theorem State.onPass_port : (s.onPass f).port = s.port := rfl
@[simp] theorem State.onPass_resetWork : (s.onPass f).resetWork = s.resetWork := rfl
@[simp] theorem State.onPass_pending : (s.onPass f).pending = s.pending := rfl
end

section
variable (f : Line → Line)
@[simp] theorem State.onLine_clock : (s.onLine f).clock = s.clock := rfl
@[simp] theorem State.onLine_minutesTaken : (s.onLine f).minutesTaken = s.minutesTaken := rfl
@[simp] theorem State.onLine_resetHeld : (s.onLine f).resetHeld = s.resetHeld := rfl
@[simp] theorem State.onLine_nextId : (s.onLine f).nextId = s.nextId := rfl
@[simp] theorem State.onLine_sets : (s.onLine f).sets = s.sets := rfl
@[simp] theorem State.onLine_tagIndex : (s.onLine f).tagIndex = s.tagIndex := rfl
@[simp] theorem State.onLine_tanks : (s.onLine f).tanks = s.tanks := rfl
@[simp] theorem State.onLine_zones : (s.onLine f).zones = s.zones := rfl
@[simp] theorem State.onLine_buses : (s.onLine f).buses = s.buses := rfl
@[simp] theorem State.onLine_feeders : (s.onLine f).feeders = s.feeders := rfl
@[simp] theorem State.onLine_accounts : (s.onLine f).accounts = s.accounts := rfl
@[simp] theorem State.onLine_nodes : (s.onLine f).nodes = s.nodes := rfl
@[simp] theorem State.onLine_ctx1 : (s.onLine f).ctx1 = s.ctx1 := rfl
@[simp] theorem State.onLine_ctx2 : (s.onLine f).ctx2 = s.ctx2 := rfl
@[simp] theorem State.onLine_site : (s.onLine f).site = s.site := rfl
@[simp] theorem State.onLine_pass : (s.onLine f).pass = s.pass := rfl
@[simp] theorem State.onLine_line : (s.onLine f).line = f s.line := rfl
@[simp] theorem State.onLine_port : (s.onLine f).port = s.port := rfl
@[simp] theorem State.onLine_resetWork : (s.onLine f).resetWork = s.resetWork := rfl
@[simp] theorem State.onLine_pending : (s.onLine f).pending = s.pending := rfl
end

section
variable (f : Port → Port)
@[simp] theorem State.onPort_clock : (s.onPort f).clock = s.clock := rfl
@[simp] theorem State.onPort_minutesTaken : (s.onPort f).minutesTaken = s.minutesTaken := rfl
@[simp] theorem State.onPort_resetHeld : (s.onPort f).resetHeld = s.resetHeld := rfl
@[simp] theorem State.onPort_nextId : (s.onPort f).nextId = s.nextId := rfl
@[simp] theorem State.onPort_sets : (s.onPort f).sets = s.sets := rfl
@[simp] theorem State.onPort_tagIndex : (s.onPort f).tagIndex = s.tagIndex := rfl
@[simp] theorem State.onPort_tanks : (s.onPort f).tanks = s.tanks := rfl
@[simp] theorem State.onPort_zones : (s.onPort f).zones = s.zones := rfl
@[simp] theorem State.onPort_buses : (s.onPort f).buses = s.buses := rfl
@[simp] theorem State.onPort_feeders : (s.onPort f).feeders = s.feeders := rfl
@[simp] theorem State.onPort_accounts : (s.onPort f).accounts = s.accounts := rfl
@[simp] theorem State.onPort_nodes : (s.onPort f).nodes = s.nodes := rfl
@[simp] theorem State.onPort_ctx1 : (s.onPort f).ctx1 = s.ctx1 := rfl
@[simp] theorem State.onPort_ctx2 : (s.onPort f).ctx2 = s.ctx2 := rfl
@[simp] theorem State.onPort_site : (s.onPort f).site = s.site := rfl
@[simp] theorem State.onPort_pass : (s.onPort f).pass = s.pass := rfl
@[simp] theorem State.onPort_line : (s.onPort f).line = s.line := rfl
@[simp] theorem State.onPort_port : (s.onPort f).port = f s.port := rfl
@[simp] theorem State.onPort_resetWork : (s.onPort f).resetWork = s.resetWork := rfl
@[simp] theorem State.onPort_pending : (s.onPort f).pending = s.pending := rfl
end

section
variable (f : ResetWork → ResetWork)
@[simp] theorem State.onResetWork_clock : (s.onResetWork f).clock = s.clock := rfl
@[simp] theorem State.onResetWork_minutesTaken : (s.onResetWork f).minutesTaken = s.minutesTaken := rfl
@[simp] theorem State.onResetWork_resetHeld : (s.onResetWork f).resetHeld = s.resetHeld := rfl
@[simp] theorem State.onResetWork_nextId : (s.onResetWork f).nextId = s.nextId := rfl
@[simp] theorem State.onResetWork_sets : (s.onResetWork f).sets = s.sets := rfl
@[simp] theorem State.onResetWork_tagIndex : (s.onResetWork f).tagIndex = s.tagIndex := rfl
@[simp] theorem State.onResetWork_tanks : (s.onResetWork f).tanks = s.tanks := rfl
@[simp] theorem State.onResetWork_zones : (s.onResetWork f).zones = s.zones := rfl
@[simp] theorem State.onResetWork_buses : (s.onResetWork f).buses = s.buses := rfl
@[simp] theorem State.onResetWork_feeders : (s.onResetWork f).feeders = s.feeders := rfl
@[simp] theorem State.onResetWork_accounts : (s.onResetWork f).accounts = s.accounts := rfl
@[simp] theorem State.onResetWork_nodes : (s.onResetWork f).nodes = s.nodes := rfl
@[simp] theorem State.onResetWork_ctx1 : (s.onResetWork f).ctx1 = s.ctx1 := rfl
@[simp] theorem State.onResetWork_ctx2 : (s.onResetWork f).ctx2 = s.ctx2 := rfl
@[simp] theorem State.onResetWork_site : (s.onResetWork f).site = s.site := rfl
@[simp] theorem State.onResetWork_pass : (s.onResetWork f).pass = s.pass := rfl
@[simp] theorem State.onResetWork_line : (s.onResetWork f).line = s.line := rfl
@[simp] theorem State.onResetWork_port : (s.onResetWork f).port = s.port := rfl
@[simp] theorem State.onResetWork_resetWork : (s.onResetWork f).resetWork = f s.resetWork := rfl
@[simp] theorem State.onResetWork_pending : (s.onResetWork f).pending = s.pending := rfl
end

section
variable (n : Nat)
@[simp] theorem State.setClock_clock : (s.setClock n).clock = n := rfl
@[simp] theorem State.setClock_minutesTaken : (s.setClock n).minutesTaken = s.minutesTaken := rfl
@[simp] theorem State.setClock_resetHeld : (s.setClock n).resetHeld = s.resetHeld := rfl
@[simp] theorem State.setClock_nextId : (s.setClock n).nextId = s.nextId := rfl
@[simp] theorem State.setClock_sets : (s.setClock n).sets = s.sets := rfl
@[simp] theorem State.setClock_tagIndex : (s.setClock n).tagIndex = s.tagIndex := rfl
@[simp] theorem State.setClock_tanks : (s.setClock n).tanks = s.tanks := rfl
@[simp] theorem State.setClock_zones : (s.setClock n).zones = s.zones := rfl
@[simp] theorem State.setClock_buses : (s.setClock n).buses = s.buses := rfl
@[simp] theorem State.setClock_feeders : (s.setClock n).feeders = s.feeders := rfl
@[simp] theorem State.setClock_accounts : (s.setClock n).accounts = s.accounts := rfl
@[simp] theorem State.setClock_nodes : (s.setClock n).nodes = s.nodes := rfl
@[simp] theorem State.setClock_ctx1 : (s.setClock n).ctx1 = s.ctx1 := rfl
@[simp] theorem State.setClock_ctx2 : (s.setClock n).ctx2 = s.ctx2 := rfl
@[simp] theorem State.setClock_site : (s.setClock n).site = s.site := rfl
@[simp] theorem State.setClock_pass : (s.setClock n).pass = s.pass := rfl
@[simp] theorem State.setClock_line : (s.setClock n).line = s.line := rfl
@[simp] theorem State.setClock_port : (s.setClock n).port = s.port := rfl
@[simp] theorem State.setClock_resetWork : (s.setClock n).resetWork = s.resetWork := rfl
@[simp] theorem State.setClock_pending : (s.setClock n).pending = s.pending := rfl
end

section
variable (n : Nat)
@[simp] theorem State.setMinutesTaken_clock : (s.setMinutesTaken n).clock = s.clock := rfl
@[simp] theorem State.setMinutesTaken_minutesTaken : (s.setMinutesTaken n).minutesTaken = n := rfl
@[simp] theorem State.setMinutesTaken_resetHeld : (s.setMinutesTaken n).resetHeld = s.resetHeld := rfl
@[simp] theorem State.setMinutesTaken_nextId : (s.setMinutesTaken n).nextId = s.nextId := rfl
@[simp] theorem State.setMinutesTaken_sets : (s.setMinutesTaken n).sets = s.sets := rfl
@[simp] theorem State.setMinutesTaken_tagIndex : (s.setMinutesTaken n).tagIndex = s.tagIndex := rfl
@[simp] theorem State.setMinutesTaken_tanks : (s.setMinutesTaken n).tanks = s.tanks := rfl
@[simp] theorem State.setMinutesTaken_zones : (s.setMinutesTaken n).zones = s.zones := rfl
@[simp] theorem State.setMinutesTaken_buses : (s.setMinutesTaken n).buses = s.buses := rfl
@[simp] theorem State.setMinutesTaken_feeders : (s.setMinutesTaken n).feeders = s.feeders := rfl
@[simp] theorem State.setMinutesTaken_accounts : (s.setMinutesTaken n).accounts = s.accounts := rfl
@[simp] theorem State.setMinutesTaken_nodes : (s.setMinutesTaken n).nodes = s.nodes := rfl
@[simp] theorem State.setMinutesTaken_ctx1 : (s.setMinutesTaken n).ctx1 = s.ctx1 := rfl
@[simp] theorem State.setMinutesTaken_ctx2 : (s.setMinutesTaken n).ctx2 = s.ctx2 := rfl
@[simp] theorem State.setMinutesTaken_site : (s.setMinutesTaken n).site = s.site := rfl
@[simp] theorem State.setMinutesTaken_pass : (s.setMinutesTaken n).pass = s.pass := rfl
@[simp] theorem State.setMinutesTaken_line : (s.setMinutesTaken n).line = s.line := rfl
@[simp] theorem State.setMinutesTaken_port : (s.setMinutesTaken n).port = s.port := rfl
@[simp] theorem State.setMinutesTaken_resetWork : (s.setMinutesTaken n).resetWork = s.resetWork := rfl
@[simp] theorem State.setMinutesTaken_pending : (s.setMinutesTaken n).pending = s.pending := rfl
end

section
variable (b : Bool)
@[simp] theorem State.setResetHeld_clock : (s.setResetHeld b).clock = s.clock := rfl
@[simp] theorem State.setResetHeld_minutesTaken : (s.setResetHeld b).minutesTaken = s.minutesTaken := rfl
@[simp] theorem State.setResetHeld_resetHeld : (s.setResetHeld b).resetHeld = b := rfl
@[simp] theorem State.setResetHeld_nextId : (s.setResetHeld b).nextId = s.nextId := rfl
@[simp] theorem State.setResetHeld_sets : (s.setResetHeld b).sets = s.sets := rfl
@[simp] theorem State.setResetHeld_tagIndex : (s.setResetHeld b).tagIndex = s.tagIndex := rfl
@[simp] theorem State.setResetHeld_tanks : (s.setResetHeld b).tanks = s.tanks := rfl
@[simp] theorem State.setResetHeld_zones : (s.setResetHeld b).zones = s.zones := rfl
@[simp] theorem State.setResetHeld_buses : (s.setResetHeld b).buses = s.buses := rfl
@[simp] theorem State.setResetHeld_feeders : (s.setResetHeld b).feeders = s.feeders := rfl
@[simp] theorem State.setResetHeld_accounts : (s.setResetHeld b).accounts = s.accounts := rfl
@[simp] theorem State.setResetHeld_nodes : (s.setResetHeld b).nodes = s.nodes := rfl
@[simp] theorem State.setResetHeld_ctx1 : (s.setResetHeld b).ctx1 = s.ctx1 := rfl
@[simp] theorem State.setResetHeld_ctx2 : (s.setResetHeld b).ctx2 = s.ctx2 := rfl
@[simp] theorem State.setResetHeld_site : (s.setResetHeld b).site = s.site := rfl
@[simp] theorem State.setResetHeld_pass : (s.setResetHeld b).pass = s.pass := rfl
@[simp] theorem State.setResetHeld_line : (s.setResetHeld b).line = s.line := rfl
@[simp] theorem State.setResetHeld_port : (s.setResetHeld b).port = s.port := rfl
@[simp] theorem State.setResetHeld_resetWork : (s.setResetHeld b).resetWork = s.resetWork := rfl
@[simp] theorem State.setResetHeld_pending : (s.setResetHeld b).pending = s.pending := rfl
end

section
variable (q : List Instr)
@[simp] theorem State.setPending_clock : (s.setPending q).clock = s.clock := rfl
@[simp] theorem State.setPending_minutesTaken : (s.setPending q).minutesTaken = s.minutesTaken := rfl
@[simp] theorem State.setPending_resetHeld : (s.setPending q).resetHeld = s.resetHeld := rfl
@[simp] theorem State.setPending_nextId : (s.setPending q).nextId = s.nextId := rfl
@[simp] theorem State.setPending_sets : (s.setPending q).sets = s.sets := rfl
@[simp] theorem State.setPending_tagIndex : (s.setPending q).tagIndex = s.tagIndex := rfl
@[simp] theorem State.setPending_tanks : (s.setPending q).tanks = s.tanks := rfl
@[simp] theorem State.setPending_zones : (s.setPending q).zones = s.zones := rfl
@[simp] theorem State.setPending_buses : (s.setPending q).buses = s.buses := rfl
@[simp] theorem State.setPending_feeders : (s.setPending q).feeders = s.feeders := rfl
@[simp] theorem State.setPending_accounts : (s.setPending q).accounts = s.accounts := rfl
@[simp] theorem State.setPending_nodes : (s.setPending q).nodes = s.nodes := rfl
@[simp] theorem State.setPending_ctx1 : (s.setPending q).ctx1 = s.ctx1 := rfl
@[simp] theorem State.setPending_ctx2 : (s.setPending q).ctx2 = s.ctx2 := rfl
@[simp] theorem State.setPending_site : (s.setPending q).site = s.site := rfl
@[simp] theorem State.setPending_pass : (s.setPending q).pass = s.pass := rfl
@[simp] theorem State.setPending_line : (s.setPending q).line = s.line := rfl
@[simp] theorem State.setPending_port : (s.setPending q).port = s.port := rfl
@[simp] theorem State.setPending_resetWork : (s.setPending q).resetWork = s.resetWork := rfl
@[simp] theorem State.setPending_pending : (s.setPending q).pending = q := rfl
end

@[simp] theorem State.bumpId_clock : s.bumpId.clock = s.clock := rfl
@[simp] theorem State.bumpId_minutesTaken : s.bumpId.minutesTaken = s.minutesTaken := rfl
@[simp] theorem State.bumpId_resetHeld : s.bumpId.resetHeld = s.resetHeld := rfl
@[simp] theorem State.bumpId_nextId : s.bumpId.nextId = s.nextId + 1 := rfl
@[simp] theorem State.bumpId_sets : s.bumpId.sets = s.sets := rfl
@[simp] theorem State.bumpId_tagIndex : s.bumpId.tagIndex = s.tagIndex := rfl
@[simp] theorem State.bumpId_tanks : s.bumpId.tanks = s.tanks := rfl
@[simp] theorem State.bumpId_zones : s.bumpId.zones = s.zones := rfl
@[simp] theorem State.bumpId_buses : s.bumpId.buses = s.buses := rfl
@[simp] theorem State.bumpId_feeders : s.bumpId.feeders = s.feeders := rfl
@[simp] theorem State.bumpId_accounts : s.bumpId.accounts = s.accounts := rfl
@[simp] theorem State.bumpId_nodes : s.bumpId.nodes = s.nodes := rfl
@[simp] theorem State.bumpId_ctx1 : s.bumpId.ctx1 = s.ctx1 := rfl
@[simp] theorem State.bumpId_ctx2 : s.bumpId.ctx2 = s.ctx2 := rfl
@[simp] theorem State.bumpId_site : s.bumpId.site = s.site := rfl
@[simp] theorem State.bumpId_pass : s.bumpId.pass = s.pass := rfl
@[simp] theorem State.bumpId_line : s.bumpId.line = s.line := rfl
@[simp] theorem State.bumpId_port : s.bumpId.port = s.port := rfl
@[simp] theorem State.bumpId_resetWork : s.bumpId.resetWork = s.resetWork := rfl
@[simp] theorem State.bumpId_pending : s.bumpId.pending = s.pending := rfl

/-! ## Updates of one record -/

section
variable (f : SetRec → SetRec)
@[simp] theorem State.updSet_clock : (s.updSet n f).clock = s.clock := rfl
@[simp] theorem State.updSet_minutesTaken : (s.updSet n f).minutesTaken = s.minutesTaken := rfl
@[simp] theorem State.updSet_resetHeld : (s.updSet n f).resetHeld = s.resetHeld := rfl
@[simp] theorem State.updSet_nextId : (s.updSet n f).nextId = s.nextId := rfl
@[simp] theorem State.updSet_sets : (s.updSet n f).sets = s.sets.upd n f := rfl
@[simp] theorem State.updSet_tagIndex : (s.updSet n f).tagIndex = s.tagIndex := rfl
@[simp] theorem State.updSet_tanks : (s.updSet n f).tanks = s.tanks := rfl
@[simp] theorem State.updSet_zones : (s.updSet n f).zones = s.zones := rfl
@[simp] theorem State.updSet_buses : (s.updSet n f).buses = s.buses := rfl
@[simp] theorem State.updSet_feeders : (s.updSet n f).feeders = s.feeders := rfl
@[simp] theorem State.updSet_accounts : (s.updSet n f).accounts = s.accounts := rfl
@[simp] theorem State.updSet_nodes : (s.updSet n f).nodes = s.nodes := rfl
@[simp] theorem State.updSet_ctx1 : (s.updSet n f).ctx1 = s.ctx1 := rfl
@[simp] theorem State.updSet_ctx2 : (s.updSet n f).ctx2 = s.ctx2 := rfl
@[simp] theorem State.updSet_site : (s.updSet n f).site = s.site := rfl
@[simp] theorem State.updSet_pass : (s.updSet n f).pass = s.pass := rfl
@[simp] theorem State.updSet_line : (s.updSet n f).line = s.line := rfl
@[simp] theorem State.updSet_port : (s.updSet n f).port = s.port := rfl
@[simp] theorem State.updSet_resetWork : (s.updSet n f).resetWork = s.resetWork := rfl
@[simp] theorem State.updSet_pending : (s.updSet n f).pending = s.pending := rfl
end

section
variable (f : TankRec → TankRec)
@[simp] theorem State.updTank_clock : (s.updTank n f).clock = s.clock := rfl
@[simp] theorem State.updTank_minutesTaken : (s.updTank n f).minutesTaken = s.minutesTaken := rfl
@[simp] theorem State.updTank_resetHeld : (s.updTank n f).resetHeld = s.resetHeld := rfl
@[simp] theorem State.updTank_nextId : (s.updTank n f).nextId = s.nextId := rfl
@[simp] theorem State.updTank_sets : (s.updTank n f).sets = s.sets := rfl
@[simp] theorem State.updTank_tagIndex : (s.updTank n f).tagIndex = s.tagIndex := rfl
@[simp] theorem State.updTank_tanks : (s.updTank n f).tanks = s.tanks.upd n f := rfl
@[simp] theorem State.updTank_zones : (s.updTank n f).zones = s.zones := rfl
@[simp] theorem State.updTank_buses : (s.updTank n f).buses = s.buses := rfl
@[simp] theorem State.updTank_feeders : (s.updTank n f).feeders = s.feeders := rfl
@[simp] theorem State.updTank_accounts : (s.updTank n f).accounts = s.accounts := rfl
@[simp] theorem State.updTank_nodes : (s.updTank n f).nodes = s.nodes := rfl
@[simp] theorem State.updTank_ctx1 : (s.updTank n f).ctx1 = s.ctx1 := rfl
@[simp] theorem State.updTank_ctx2 : (s.updTank n f).ctx2 = s.ctx2 := rfl
@[simp] theorem State.updTank_site : (s.updTank n f).site = s.site := rfl
@[simp] theorem State.updTank_pass : (s.updTank n f).pass = s.pass := rfl
@[simp] theorem State.updTank_line : (s.updTank n f).line = s.line := rfl
@[simp] theorem State.updTank_port : (s.updTank n f).port = s.port := rfl
@[simp] theorem State.updTank_resetWork : (s.updTank n f).resetWork = s.resetWork := rfl
@[simp] theorem State.updTank_pending : (s.updTank n f).pending = s.pending := rfl
end

section
variable (f : ZoneRec → ZoneRec)
@[simp] theorem State.updZone_clock : (s.updZone n f).clock = s.clock := rfl
@[simp] theorem State.updZone_minutesTaken : (s.updZone n f).minutesTaken = s.minutesTaken := rfl
@[simp] theorem State.updZone_resetHeld : (s.updZone n f).resetHeld = s.resetHeld := rfl
@[simp] theorem State.updZone_nextId : (s.updZone n f).nextId = s.nextId := rfl
@[simp] theorem State.updZone_sets : (s.updZone n f).sets = s.sets := rfl
@[simp] theorem State.updZone_tagIndex : (s.updZone n f).tagIndex = s.tagIndex := rfl
@[simp] theorem State.updZone_tanks : (s.updZone n f).tanks = s.tanks := rfl
@[simp] theorem State.updZone_zones : (s.updZone n f).zones = s.zones.upd n f := rfl
@[simp] theorem State.updZone_buses : (s.updZone n f).buses = s.buses := rfl
@[simp] theorem State.updZone_feeders : (s.updZone n f).feeders = s.feeders := rfl
@[simp] theorem State.updZone_accounts : (s.updZone n f).accounts = s.accounts := rfl
@[simp] theorem State.updZone_nodes : (s.updZone n f).nodes = s.nodes := rfl
@[simp] theorem State.updZone_ctx1 : (s.updZone n f).ctx1 = s.ctx1 := rfl
@[simp] theorem State.updZone_ctx2 : (s.updZone n f).ctx2 = s.ctx2 := rfl
@[simp] theorem State.updZone_site : (s.updZone n f).site = s.site := rfl
@[simp] theorem State.updZone_pass : (s.updZone n f).pass = s.pass := rfl
@[simp] theorem State.updZone_line : (s.updZone n f).line = s.line := rfl
@[simp] theorem State.updZone_port : (s.updZone n f).port = s.port := rfl
@[simp] theorem State.updZone_resetWork : (s.updZone n f).resetWork = s.resetWork := rfl
@[simp] theorem State.updZone_pending : (s.updZone n f).pending = s.pending := rfl
end

section
variable (f : BusRec → BusRec)
@[simp] theorem State.updBus_clock : (s.updBus n f).clock = s.clock := rfl
@[simp] theorem State.updBus_minutesTaken : (s.updBus n f).minutesTaken = s.minutesTaken := rfl
@[simp] theorem State.updBus_resetHeld : (s.updBus n f).resetHeld = s.resetHeld := rfl
@[simp] theorem State.updBus_nextId : (s.updBus n f).nextId = s.nextId := rfl
@[simp] theorem State.updBus_sets : (s.updBus n f).sets = s.sets := rfl
@[simp] theorem State.updBus_tagIndex : (s.updBus n f).tagIndex = s.tagIndex := rfl
@[simp] theorem State.updBus_tanks : (s.updBus n f).tanks = s.tanks := rfl
@[simp] theorem State.updBus_zones : (s.updBus n f).zones = s.zones := rfl
@[simp] theorem State.updBus_buses : (s.updBus n f).buses = s.buses.upd n f := rfl
@[simp] theorem State.updBus_feeders : (s.updBus n f).feeders = s.feeders := rfl
@[simp] theorem State.updBus_accounts : (s.updBus n f).accounts = s.accounts := rfl
@[simp] theorem State.updBus_nodes : (s.updBus n f).nodes = s.nodes := rfl
@[simp] theorem State.updBus_ctx1 : (s.updBus n f).ctx1 = s.ctx1 := rfl
@[simp] theorem State.updBus_ctx2 : (s.updBus n f).ctx2 = s.ctx2 := rfl
@[simp] theorem State.updBus_site : (s.updBus n f).site = s.site := rfl
@[simp] theorem State.updBus_pass : (s.updBus n f).pass = s.pass := rfl
@[simp] theorem State.updBus_line : (s.updBus n f).line = s.line := rfl
@[simp] theorem State.updBus_port : (s.updBus n f).port = s.port := rfl
@[simp] theorem State.updBus_resetWork : (s.updBus n f).resetWork = s.resetWork := rfl
@[simp] theorem State.updBus_pending : (s.updBus n f).pending = s.pending := rfl
end

section
variable (f : FeederRec → FeederRec)
@[simp] theorem State.updFeeder_clock : (s.updFeeder n f).clock = s.clock := rfl
@[simp] theorem State.updFeeder_minutesTaken : (s.updFeeder n f).minutesTaken = s.minutesTaken := rfl
@[simp] theorem State.updFeeder_resetHeld : (s.updFeeder n f).resetHeld = s.resetHeld := rfl
@[simp] theorem State.updFeeder_nextId : (s.updFeeder n f).nextId = s.nextId := rfl
@[simp] theorem State.updFeeder_sets : (s.updFeeder n f).sets = s.sets := rfl
@[simp] theorem State.updFeeder_tagIndex : (s.updFeeder n f).tagIndex = s.tagIndex := rfl
@[simp] theorem State.updFeeder_tanks : (s.updFeeder n f).tanks = s.tanks := rfl
@[simp] theorem State.updFeeder_zones : (s.updFeeder n f).zones = s.zones := rfl
@[simp] theorem State.updFeeder_buses : (s.updFeeder n f).buses = s.buses := rfl
@[simp] theorem State.updFeeder_feeders : (s.updFeeder n f).feeders = s.feeders.upd n f := rfl
@[simp] theorem State.updFeeder_accounts : (s.updFeeder n f).accounts = s.accounts := rfl
@[simp] theorem State.updFeeder_nodes : (s.updFeeder n f).nodes = s.nodes := rfl
@[simp] theorem State.updFeeder_ctx1 : (s.updFeeder n f).ctx1 = s.ctx1 := rfl
@[simp] theorem State.updFeeder_ctx2 : (s.updFeeder n f).ctx2 = s.ctx2 := rfl
@[simp] theorem State.updFeeder_site : (s.updFeeder n f).site = s.site := rfl
@[simp] theorem State.updFeeder_pass : (s.updFeeder n f).pass = s.pass := rfl
@[simp] theorem State.updFeeder_line : (s.updFeeder n f).line = s.line := rfl
@[simp] theorem State.updFeeder_port : (s.updFeeder n f).port = s.port := rfl
@[simp] theorem State.updFeeder_resetWork : (s.updFeeder n f).resetWork = s.resetWork := rfl
@[simp] theorem State.updFeeder_pending : (s.updFeeder n f).pending = s.pending := rfl
end

section
variable (f : AccountRec → AccountRec)
@[simp] theorem State.updAccount_clock : (s.updAccount n f).clock = s.clock := rfl
@[simp] theorem State.updAccount_minutesTaken : (s.updAccount n f).minutesTaken = s.minutesTaken := rfl
@[simp] theorem State.updAccount_resetHeld : (s.updAccount n f).resetHeld = s.resetHeld := rfl
@[simp] theorem State.updAccount_nextId : (s.updAccount n f).nextId = s.nextId := rfl
@[simp] theorem State.updAccount_sets : (s.updAccount n f).sets = s.sets := rfl
@[simp] theorem State.updAccount_tagIndex : (s.updAccount n f).tagIndex = s.tagIndex := rfl
@[simp] theorem State.updAccount_tanks : (s.updAccount n f).tanks = s.tanks := rfl
@[simp] theorem State.updAccount_zones : (s.updAccount n f).zones = s.zones := rfl
@[simp] theorem State.updAccount_buses : (s.updAccount n f).buses = s.buses := rfl
@[simp] theorem State.updAccount_feeders : (s.updAccount n f).feeders = s.feeders := rfl
@[simp] theorem State.updAccount_accounts : (s.updAccount n f).accounts = s.accounts.upd n f := rfl
@[simp] theorem State.updAccount_nodes : (s.updAccount n f).nodes = s.nodes := rfl
@[simp] theorem State.updAccount_ctx1 : (s.updAccount n f).ctx1 = s.ctx1 := rfl
@[simp] theorem State.updAccount_ctx2 : (s.updAccount n f).ctx2 = s.ctx2 := rfl
@[simp] theorem State.updAccount_site : (s.updAccount n f).site = s.site := rfl
@[simp] theorem State.updAccount_pass : (s.updAccount n f).pass = s.pass := rfl
@[simp] theorem State.updAccount_line : (s.updAccount n f).line = s.line := rfl
@[simp] theorem State.updAccount_port : (s.updAccount n f).port = s.port := rfl
@[simp] theorem State.updAccount_resetWork : (s.updAccount n f).resetWork = s.resetWork := rfl
@[simp] theorem State.updAccount_pending : (s.updAccount n f).pending = s.pending := rfl
end

/-! ## Updates of a delivery context -/

section
variable (f : Ctx → Ctx)
@[simp] theorem State.updCtx_clock : (s.updCtx n f).clock = s.clock := by
  unfold State.updCtx; split <;> rfl
@[simp] theorem State.updCtx_minutesTaken : (s.updCtx n f).minutesTaken = s.minutesTaken := by
  unfold State.updCtx; split <;> rfl
@[simp] theorem State.updCtx_resetHeld : (s.updCtx n f).resetHeld = s.resetHeld := by
  unfold State.updCtx; split <;> rfl
@[simp] theorem State.updCtx_nextId : (s.updCtx n f).nextId = s.nextId := by
  unfold State.updCtx; split <;> rfl
@[simp] theorem State.updCtx_sets : (s.updCtx n f).sets = s.sets := by
  unfold State.updCtx; split <;> rfl
@[simp] theorem State.updCtx_tagIndex : (s.updCtx n f).tagIndex = s.tagIndex := by
  unfold State.updCtx; split <;> rfl
@[simp] theorem State.updCtx_tanks : (s.updCtx n f).tanks = s.tanks := by
  unfold State.updCtx; split <;> rfl
@[simp] theorem State.updCtx_zones : (s.updCtx n f).zones = s.zones := by
  unfold State.updCtx; split <;> rfl
@[simp] theorem State.updCtx_buses : (s.updCtx n f).buses = s.buses := by
  unfold State.updCtx; split <;> rfl
@[simp] theorem State.updCtx_feeders : (s.updCtx n f).feeders = s.feeders := by
  unfold State.updCtx; split <;> rfl
@[simp] theorem State.updCtx_accounts : (s.updCtx n f).accounts = s.accounts := by
  unfold State.updCtx; split <;> rfl
@[simp] theorem State.updCtx_nodes : (s.updCtx n f).nodes = s.nodes := by
  unfold State.updCtx; split <;> rfl
@[simp] theorem State.updCtx_site : (s.updCtx n f).site = s.site := by
  unfold State.updCtx; split <;> rfl
@[simp] theorem State.updCtx_pass : (s.updCtx n f).pass = s.pass := by
  unfold State.updCtx; split <;> rfl
@[simp] theorem State.updCtx_line : (s.updCtx n f).line = s.line := by
  unfold State.updCtx; split <;> rfl
@[simp] theorem State.updCtx_port : (s.updCtx n f).port = s.port := by
  unfold State.updCtx; split <;> rfl
@[simp] theorem State.updCtx_resetWork : (s.updCtx n f).resetWork = s.resetWork := by
  unfold State.updCtx; split <;> rfl
@[simp] theorem State.updCtx_pending : (s.updCtx n f).pending = s.pending := by
  unfold State.updCtx; split <;> rfl
@[simp] theorem State.updCtx_ctx1 : (s.updCtx n f).ctx1 = if n = 1 then f s.ctx1 else s.ctx1 := by
  unfold State.updCtx; split <;> rfl
@[simp] theorem State.updCtx_ctx2 : (s.updCtx n f).ctx2 = if n = 1 then s.ctx2 else f s.ctx2 := by
  unfold State.updCtx; split <;> rfl
@[simp] theorem State.ctx_updCtx : (s.updCtx n f).ctx n = f (s.ctx n) := by
  unfold State.updCtx State.ctx; split <;> rfl
/-- The update of one context leaves the other. -/
theorem State.ctx_updCtx_ne {m : Nat} (h : (m = 1) ≠ (n = 1)) : (s.updCtx n f).ctx m = s.ctx m := by
  unfold State.updCtx State.ctx; by_cases h1 : m = 1 <;> by_cases h2 : n = 1 <;> simp_all
end

/-! ## Raising a notice -/

section
variable (k : NoticeKind) (t : TableId) (v : Option Nat)
@[simp] theorem raise_clock : (raise k t n v s).clock = s.clock := rfl
@[simp] theorem raise_minutesTaken : (raise k t n v s).minutesTaken = s.minutesTaken := rfl
@[simp] theorem raise_resetHeld : (raise k t n v s).resetHeld = s.resetHeld := rfl
@[simp] theorem raise_nextId : (raise k t n v s).nextId = s.nextId := rfl
@[simp] theorem raise_sets : (raise k t n v s).sets = s.sets := rfl
@[simp] theorem raise_tagIndex : (raise k t n v s).tagIndex = s.tagIndex := rfl
@[simp] theorem raise_tanks : (raise k t n v s).tanks = s.tanks := rfl
@[simp] theorem raise_zones : (raise k t n v s).zones = s.zones := rfl
@[simp] theorem raise_buses : (raise k t n v s).buses = s.buses := rfl
@[simp] theorem raise_feeders : (raise k t n v s).feeders = s.feeders := rfl
@[simp] theorem raise_accounts : (raise k t n v s).accounts = s.accounts := rfl
@[simp] theorem raise_nodes : (raise k t n v s).nodes = s.nodes := rfl
@[simp] theorem raise_ctx1 : (raise k t n v s).ctx1 = s.ctx1 := rfl
@[simp] theorem raise_ctx2 : (raise k t n v s).ctx2 = s.ctx2 := rfl
@[simp] theorem raise_site : (raise k t n v s).site = s.site := rfl
@[simp] theorem raise_pass : (raise k t n v s).pass = s.pass := rfl
@[simp] theorem raise_line : (raise k t n v s).line = s.line := rfl
@[simp] theorem raise_port :
    (raise k t n v s).port = Port.append { kind := k, table := t, index := n, value := v, time := s.clock } s.port := rfl
@[simp] theorem raise_resetWork : (raise k t n v s).resetWork = s.resetWork := rfl
@[simp] theorem raise_pending : (raise k t n v s).pending = s.pending := rfl
end

end Sys2Proof.Machine
end

