-- ==== Sys2Proof/Laws/Line.lean ====
section
/-! SUPPORT. What the operations of the site line can do: the queue, the backlog, exchanges and inbound
slots. -/

namespace Sys2Proof.Machine

/-! ## The queue in order of class -/

theorem mem_queueBack {q : List OutFrame} {f g : OutFrame} : g ∈ queueBack q f ↔ g = f ∨ g ∈ q := by
  have h : g ∈ q ↔ g ∈ q.takeWhile (fun x => decide (x.cls.code ≤ f.cls.code))
      ∨ g ∈ q.dropWhile (fun x => decide (x.cls.code ≤ f.cls.code)) := by
    rw [← List.mem_append, List.takeWhile_append_dropWhile]
  rw [h]
  simp only [queueBack, List.mem_append, List.mem_cons]
  tauto

theorem mem_queueFront {q : List OutFrame} {f g : OutFrame} : g ∈ queueFront q f ↔ g = f ∨ g ∈ q := by
  have h : g ∈ q ↔ g ∈ q.takeWhile (fun x => decide (x.cls.code < f.cls.code))
      ∨ g ∈ q.dropWhile (fun x => decide (x.cls.code < f.cls.code)) := by
    rw [← List.mem_append, List.takeWhile_append_dropWhile]
  rw [h]
  simp only [queueFront, List.mem_append, List.mem_cons]
  tauto

/-- Past the first entry that fails a test that only gets harder, every entry fails it. -/
theorem all_dropWhile_of_sorted {q : List OutFrame} (h : q.Pairwise (fun f g => f.cls.code ≤ g.cls.code))
    {p : Nat → Bool} (hp : ∀ a b, a ≤ b → p b = true → p a = true) :
    ∀ g ∈ q.dropWhile (fun x => p x.cls.code), p g.cls.code = false := by
  induction q with
  | nil => simp
  | cons x q ih =>
    rw [List.pairwise_cons] at h
    rw [List.dropWhile_cons]
    split
    · exact ih h.2
    · next hx =>
      intro g hg
      rcases List.mem_cons.1 hg with rfl | hg
      · simpa using hx
      · by_contra hc
        exact hx (hp _ _ (h.1 g hg) (by simpa using hc))

/-- A frame put at the end of its class keeps the order of class. -/
theorem queueBack_sorted {q : List OutFrame} (f : OutFrame)
    (h : q.Pairwise (fun f g => f.cls.code ≤ g.cls.code)) :
    (queueBack q f).Pairwise (fun f g => f.cls.code ≤ g.cls.code) := by
  have hd := all_dropWhile_of_sorted h (p := fun c => decide (c ≤ f.cls.code))
    (by intro a b hab; simp only [decide_eq_true_eq]; omega)
  have ht : ∀ g ∈ q.takeWhile (fun x => decide (x.cls.code ≤ f.cls.code)), g.cls.code ≤ f.cls.code := by
    intro g hg; simpa using List.mem_takeWhile_imp hg
  rw [queueBack, List.pairwise_append, List.pairwise_cons]
  refine ⟨h.sublist (List.takeWhile_sublist _), ⟨fun g hg => ?_, h.sublist (List.dropWhile_sublist _)⟩, ?_⟩
  · have := hd g hg; simp only [decide_eq_false_iff_not] at this; omega
  · intro a ha b hb
    rcases List.mem_cons.1 hb with rfl | hb
    · exact ht a ha
    · have := hd b hb; simp only [decide_eq_false_iff_not] at this; have := ht a ha; omega

/-- A boundary read put at the head of its class keeps the order of class. -/
theorem queueFront_sorted {q : List OutFrame} (f : OutFrame)
    (h : q.Pairwise (fun f g => f.cls.code ≤ g.cls.code)) :
    (queueFront q f).Pairwise (fun f g => f.cls.code ≤ g.cls.code) := by
  have hd := all_dropWhile_of_sorted h (p := fun c => decide (c < f.cls.code))
    (by intro a b hab; simp only [decide_eq_true_eq]; omega)
  have ht : ∀ g ∈ q.takeWhile (fun x => decide (x.cls.code < f.cls.code)), g.cls.code < f.cls.code := by
    intro g hg; simpa using List.mem_takeWhile_imp hg
  rw [queueFront, List.pairwise_append, List.pairwise_cons]
  refine ⟨h.sublist (List.takeWhile_sublist _), ⟨fun g hg => ?_, h.sublist (List.dropWhile_sublist _)⟩, ?_⟩
  · have := hd g hg; simp only [decide_eq_false_iff_not] at this; omega
  · intro a ha b hb
    rcases List.mem_cons.1 hb with rfl | hb
    · have := ht a ha; omega
    · have := hd b hb; simp only [decide_eq_false_iff_not] at this; have := ht a ha; omega

theorem countP_queueBack (p : OutFrame → Bool) (q : List OutFrame) (f : OutFrame) :
    (queueBack q f).countP p = q.countP p + (p f).toNat := by
  have h := congrArg (List.countP p)
    (List.takeWhile_append_dropWhile (p := fun x => decide (x.cls.code ≤ f.cls.code)) (l := q))
  rw [List.countP_append] at h
  rw [queueBack, List.countP_append, List.countP_cons, ← h]
  cases p f <;> simp [Nat.add_assoc]

theorem countP_queueFront (p : OutFrame → Bool) (q : List OutFrame) (f : OutFrame) :
    (queueFront q f).countP p = q.countP p + (p f).toNat := by
  have h := congrArg (List.countP p)
    (List.takeWhile_append_dropWhile (p := fun x => decide (x.cls.code < f.cls.code)) (l := q))
  rw [List.countP_append] at h
  rw [queueFront, List.countP_append, List.countP_cons, ← h]
  cases p f <;> simp [Nat.add_assoc]

/-! ## Offering a frame -/

/-- An ORDER takes a general entry, else a kept one, else waits in the backlog (R180, R181). -/
theorem Line.offerOrder_cases (f : OutFrame) (l : Line) :
    (l.generalUsed < 12 ∧ l.offerOrder f = { l with queue := queueBack l.queue { f with kept := false } })
    ∨ (12 ≤ l.generalUsed ∧ l.keptUsed < 4
      ∧ l.offerOrder f = { l with queue := queueBack l.queue { f with kept := true } })
    ∨ (12 ≤ l.generalUsed ∧ 4 ≤ l.keptUsed ∧ l.offerOrder f = l.toBacklog f) := by
  unfold Line.offerOrder
  split
  · next h => exact .inl ⟨h, rfl⟩
  · next h =>
    simp only [Config.generalEntries, not_lt] at h
    split
    · next h2 => exact .inr (.inl ⟨h, h2, rfl⟩)
    · next h2 => simp only [Config.keptEntries, not_lt] at h2; exact .inr (.inr ⟨h, h2, rfl⟩)

/-- Waiting in the backlog changes the backlog alone, which never holds more than 128. -/
theorem Line.toBacklog_spec (f : OutFrame) (l : Line) :
    ∃ b, l.toBacklog f = { l with backlog := b } ∧ (l.backlog.length ≤ 128 → b.length ≤ 128) := by
  unfold Line.toBacklog
  split
  · next h =>
    exact ⟨_, rfl, fun _ => by simp only [Config.backlog, List.length_append, List.length_singleton] at h ⊢; omega⟩
  · next h =>
    cases f.cls
    · exact ⟨l.backlog, rfl, id⟩
    · dsimp only
      unfold dropNewestReply
      split
      · next b hb =>
        refine ⟨_, rfl, fun hl => ?_⟩
        split at hb
        · next hr =>
          injection hb with hb
          subst hb
          obtain ⟨x, hx, hc⟩ := List.any_eq_true.1 hr
          have he := List.length_eraseP_of_mem (p := fun f => decide (f.cls = FrameClass.reply))
            (List.mem_reverse.2 hx) hc
          have : 0 < l.backlog.length := List.length_pos_of_mem hx
          simp only [List.length_append, List.length_reverse, List.length_singleton, he]
          omega
        · cases hb
      · refine ⟨_, rfl, fun hl => ?_⟩
        have hm := Nat.mod_lt (Config.backlogVictim f.id) (show 0 < Config.backlog + 1 by decide)
        have hb : Config.backlog = 128 := rfl
        rw [List.length_eraseIdx_of_lt (by rw [List.length_append, List.length_singleton]; omega)]
        rw [List.length_append, List.length_singleton]
        omega
    · exact ⟨l.backlog, rfl, id⟩
    · exact ⟨l.backlog, rfl, id⟩

/-- Offering an ORDER changes the queue and the backlog alone. -/
theorem Line.offerOrder_frame (f : OutFrame) (l : Line) :
    ∃ q b, l.offerOrder f = { l with queue := q, backlog := b } := by
  rcases l.offerOrder_cases f with ⟨-, h⟩ | ⟨-, -, h⟩ | ⟨-, -, h⟩
  · exact ⟨_, l.backlog, h⟩
  · exact ⟨_, l.backlog, h⟩
  · obtain ⟨b, hb, -⟩ := l.toBacklog_spec f
    exact ⟨l.queue, b, by rw [h, hb]⟩

/-- Offering an ORDER keeps the queues in order and in bounds. -/
theorem Line.queuesOk_offerOrder {l : Line} (h : l.queuesOk) (f : OutFrame) : (l.offerOrder f).queuesOk := by
  obtain ⟨h1, h2, h3, h4⟩ := h
  rcases l.offerOrder_cases f with ⟨hg, e⟩ | ⟨-, hk, e⟩ | ⟨-, -, e⟩ <;> rw [e]
  · refine ⟨queueBack_sorted _ h1, ?_, ?_, h4⟩
    · simp only [Line.generalUsed, countP_queueBack, Bool.not_false, Bool.toNat_true] at hg ⊢
      simp only [Config.generalEntries]; omega
    · simpa [Line.keptUsed, countP_queueBack] using h3
  · refine ⟨queueBack_sorted _ h1, ?_, ?_, h4⟩
    · simpa [Line.generalUsed, countP_queueBack] using h2
    · simp only [Line.keptUsed, countP_queueBack, Bool.toNat_true] at hk ⊢
      simp only [Config.keptEntries]; omega
  · obtain ⟨b, hb, hl⟩ := l.toBacklog_spec f
    rw [hb]
    exact ⟨h1, h2, h3, hl h4⟩

/-! ## Sending an order leaves all but the line and the next id -/

/-- What sending an ORDER does to the state. -/
theorem sendOrder_eq (dest kind : Nat) (payload : List Byte) (p : Purpose) (s : State) :
    sendOrder dest kind payload p s =
      { s with
        nextId := s.nextId + 1
        line := s.line.offerOrder { id := s.nextId, cls := .order, dest, kind, payload, purpose := p } } := rfl

/-- What offering a QUERY does: it takes a general entry, or finds none and changes nothing (R181). -/
theorem offerQuery_cases (dest kind : Nat) (p : Purpose) (front : Bool) (s : State) :
    (s.line.generalUsed < 12 ∧ ∃ q, offerQuery dest kind p front s =
      ({ s with nextId := s.nextId + 1, line := { s.line with queue := q } }, some s.nextId))
    ∨ (12 ≤ s.line.generalUsed ∧ offerQuery dest kind p front s = (s, none)) := by
  unfold offerQuery Line.roomForQuery
  split
  · next h => exact .inl ⟨of_decide_eq_true h, _, rfl⟩
  · next h => exact .inr ⟨Nat.not_lt.1 (fun h' => h (decide_eq_true h')), rfl⟩

/-! ## Receiving -/

/-- A frame on hold apart, freeing a slot changes the slots alone. -/
theorem Line.freeAt_of_noHold {l : Line} (h : l.rxHold = none) (n : Nat) :
    l.freeAt n = { l with slots := l.slots.filter (fun t => t.number ≠ n) } := by
  simp [Line.freeAt, h]

/-- Acknowledging a frame puts it in the slot and closes the exchange it answers. -/
theorem Line.admitTo_slots (n : Nat) (f : InFrame) (l : Line) :
    (l.admitTo n f).slots = l.slots ++ [{ number := n, frame := f, closes := l.closedBy f }]
    ∧ (l.admitTo n f).answered = .ack := by
  unfold Line.admitTo
  dsimp only
  split <;> exact ⟨rfl, rfl⟩

end Sys2Proof.Machine
end

