-- ==== Sys2Proof/Laws/Notices.lean ====
section
/-! SUPPORT. What raising a notice and writing a response can do to the control port. -/

namespace Sys2Proof.Machine

/-- Raising a notice does one of three things: nothing, the overflow mark, or the notice at the tail with ATTN. -/
theorem Port.append_cases (n : Notice) (p : Port) :
    (n.kind.coalesces = true ∧ p.notices.any n.sameSubject = true ∧ p.append n = p)
    ∨ (32 ≤ p.notices.length ∧ p.append n = { p with overflow := true })
    ∨ (p.notices.length < 32 ∧ (n.kind.coalesces = true → p.notices.any n.sameSubject = false)
      ∧ p.append n = { p with notices := p.notices ++ [n], attn := true }) := by
  unfold Port.append
  split
  · next h => simp only [Bool.and_eq_true] at h; exact .inl ⟨h.1, h.2, rfl⟩
  · next h =>
    split
    · next h2 => exact .inr (.inl ⟨h2, rfl⟩)
    · next h2 =>
      refine .inr (.inr ⟨by simpa [Config.notices] using h2, fun hk => ?_, rfl⟩)
      simpa [hk] using h

@[simp] theorem Port.append_request (n : Notice) (p : Port) : (p.append n).request = p.request := by
  rcases p.append_cases n with ⟨-, -, h⟩ | ⟨-, h⟩ | ⟨-, -, h⟩ <;> rw [h]
@[simp] theorem Port.append_response (n : Notice) (p : Port) : (p.append n).response = p.response := by
  rcases p.append_cases n with ⟨-, -, h⟩ | ⟨-, h⟩ | ⟨-, -, h⟩ <;> rw [h]
@[simp] theorem Port.append_rdy (n : Notice) (p : Port) : (p.append n).rdy = p.rdy := by
  rcases p.append_cases n with ⟨-, -, h⟩ | ⟨-, h⟩ | ⟨-, -, h⟩ <;> rw [h]
@[simp] theorem Port.append_overrun (n : Notice) (p : Port) : (p.append n).overrun = p.overrun := by
  rcases p.append_cases n with ⟨-, -, h⟩ | ⟨-, h⟩ | ⟨-, -, h⟩ <;> rw [h]

/-- A notice queued is never lost by raising another. -/
theorem Port.mem_append_of_mem (n : Notice) {p : Port} {m : Notice} (h : m ∈ p.notices) :
    m ∈ (p.append n).notices := by
  rcases p.append_cases n with ⟨-, -, e⟩ | ⟨-, e⟩ | ⟨-, -, e⟩ <;> rw [e]
  · exact h
  · exact h
  · exact List.mem_append_left _ h

/-- A kind that does not coalesce is queued when there is room (R195). -/
theorem Port.mem_append_self {n : Notice} {p : Port} (hk : n.kind.coalesces = false)
    (hr : p.notices.length < 32) : n ∈ (p.append n).notices := by
  rcases p.append_cases n with ⟨h, -⟩ | ⟨h, -⟩ | ⟨-, -, e⟩
  · simp [hk] at h
  · omega
  · rw [e]; simp

/-- The two notices are about the same subject, whichever is asked about first. -/
theorem Notice.sameSubject_comm (a b : Notice) : a.sameSubject b = b.sameSubject a := by
  simp only [Notice.sameSubject, eq_comm]

/-- Raising a notice keeps what a control port is. -/
theorem Port.ok_append {p : Port} (h : p.ok) (n : Notice) : (p.append n).ok := by
  obtain ⟨h1, h2, h3, h4⟩ := h
  rcases p.append_cases n with ⟨-, -, e⟩ | ⟨-, e⟩ | ⟨hl, hc, e⟩ <;> rw [e]
  · exact ⟨h1, h2, h3, h4⟩
  · exact ⟨h1, h2, h3, h4⟩
  · refine ⟨by simp [Config.notices]; omega, ?_, by simp, h4⟩
    rw [List.pairwise_append]
    refine ⟨h2, by simp, fun a ha b hb => ?_⟩
    rw [List.mem_singleton] at hb
    subst hb
    rintro ⟨hk, hs⟩
    have hkind : a.kind = b.kind := by
      simp only [Notice.sameSubject, decide_eq_true_eq] at hs; exact hs.1
    have := hc (hkind ▸ hk)
    rw [List.any_eq_false] at this
    exact this a ha (by rw [Notice.sameSubject_comm]; exact hs)

end Sys2Proof.Machine
end

