-- ==== Sys2Proof/Laws/PerInstr.lean ====
section
/-! SUPPORT. Facts about every command as syntax, one lemma a command: a well-formed command that takes a frame
takes it from one of the four inbound slots (09, R186). -/

namespace Sys2Proof.Laws

/-- The inbound slot of a source, if it is one. -/
def Source.slot? : Source → Option Nat
  | .port => none
  | .slot n => some n

/-- The inbound slot a command takes its frame from, if it takes one. -/
def inboundSlot : Instr → Option Nat
  | .coldStart => none
  | .lineReset => none
  | .lineResetRelease => none
  | .read _ => none
  | .write _ _ => none
  | .lookup src => Source.slot? src
  | .find src => Source.slot? src
  | .enrol src => Source.slot? src
  | .amend src => Source.slot? src
  | .retire src => Source.slot? src
  | .changeover src => Source.slot? src
  | .cancelChangeover src => Source.slot? src
  | .confirmSupply src => Source.slot? src
  | .dipEntry src => Source.slot? src
  | .reseatFeeder src => Source.slot? src
  | .startPass src => Source.slot? src
  | .openDelivery src => Source.slot? src
  | .nominate src => Source.slot? src
  | .suspendDelivery src => Source.slot? src
  | .resumeDelivery src => Source.slot? src
  | .skipNomination src => Source.slot? src
  | .abandonDelivery src => Source.slot? src
  | .collectDocket src => Source.slot? src
  | .closePeriod src => Source.slot? src
  | .collectStatement src => Source.slot? src
  | .takeNotice src => Source.slot? src
  | .frameReceive _ => none
  | .receiveHoldExpiry => none
  | .state slot => some slot
  | .syncOk slot => some slot
  | .inputs slot => some slot
  | .level slot => some slot
  | .reading slot => some slot
  | .bowserMeter slot => some slot
  | .hoseDone slot => some slot
  | .result slot => some slot
  | .valveShutReply slot => some slot
  | .sendFrame _ _ => none
  | .sendHoldAnswer _ => none
  | .sendHoldExpiry => none
  | .replyDeadline _ => none
  | .minuteTick => none
  | .scanDeadline => none
  | .coolDownDeadline _ => none
  | .warmUpDeadline _ => none
  | .fuelWaitDeadline _ => none
  | .phaseDeadline _ => none
  | .gatheringDeadline _ => none
  | .fillDeadline _ => none
  | .settleDeadline _ => none
  | .unknownKindFrame slot => some slot

/-- A well-formed command takes a frame from a slot numbered 1 to 4. -/
def SlotNumbered.Statement (i : Instr) : Prop :=
  i.wf = true → ∀ n, inboundSlot i = some n → 1 ≤ n ∧ n ≤ 4

theorem Source.slot_numbered {src : Source} (h : src.wf = true) {n : Nat} (hn : Source.slot? src = some n) :
    1 ≤ n ∧ n ≤ 4 := by
  cases src with
  | port => cases hn
  | slot m =>
    injection hn with hn
    subst hn
    exact of_decide_eq_true h

theorem SlotNumbered.coldStart :
    SlotNumbered.Statement .coldStart := fun _ _ hn => nomatch hn
theorem SlotNumbered.lineReset :
    SlotNumbered.Statement .lineReset := fun _ _ hn => nomatch hn
theorem SlotNumbered.lineResetRelease :
    SlotNumbered.Statement .lineResetRelease := fun _ _ hn => nomatch hn
theorem SlotNumbered.read (clocked : Nat) :
    SlotNumbered.Statement (.read clocked) := fun _ _ hn => nomatch hn
theorem SlotNumbered.write (bytes : List Byte) (extraBits : Nat) :
    SlotNumbered.Statement (.write bytes extraBits) := fun _ _ hn => nomatch hn
theorem SlotNumbered.lookup (src : Source) : SlotNumbered.Statement (.lookup src) :=
  fun h _ hn => Source.slot_numbered h hn
theorem SlotNumbered.find (src : Source) : SlotNumbered.Statement (.find src) :=
  fun h _ hn => Source.slot_numbered h hn
theorem SlotNumbered.enrol (src : Source) : SlotNumbered.Statement (.enrol src) :=
  fun h _ hn => Source.slot_numbered h hn
theorem SlotNumbered.amend (src : Source) : SlotNumbered.Statement (.amend src) :=
  fun h _ hn => Source.slot_numbered h hn
theorem SlotNumbered.retire (src : Source) : SlotNumbered.Statement (.retire src) :=
  fun h _ hn => Source.slot_numbered h hn
theorem SlotNumbered.changeover (src : Source) : SlotNumbered.Statement (.changeover src) :=
  fun h _ hn => Source.slot_numbered h hn
theorem SlotNumbered.cancelChangeover (src : Source) : SlotNumbered.Statement (.cancelChangeover src) :=
  fun h _ hn => Source.slot_numbered h hn
theorem SlotNumbered.confirmSupply (src : Source) : SlotNumbered.Statement (.confirmSupply src) :=
  fun h _ hn => Source.slot_numbered h hn
theorem SlotNumbered.dipEntry (src : Source) : SlotNumbered.Statement (.dipEntry src) :=
  fun h _ hn => Source.slot_numbered h hn
theorem SlotNumbered.reseatFeeder (src : Source) : SlotNumbered.Statement (.reseatFeeder src) :=
  fun h _ hn => Source.slot_numbered h hn
theorem SlotNumbered.startPass (src : Source) : SlotNumbered.Statement (.startPass src) :=
  fun h _ hn => Source.slot_numbered h hn
theorem SlotNumbered.openDelivery (src : Source) : SlotNumbered.Statement (.openDelivery src) :=
  fun h _ hn => Source.slot_numbered h hn
theorem SlotNumbered.nominate (src : Source) : SlotNumbered.Statement (.nominate src) :=
  fun h _ hn => Source.slot_numbered h hn
theorem SlotNumbered.suspendDelivery (src : Source) : SlotNumbered.Statement (.suspendDelivery src) :=
  fun h _ hn => Source.slot_numbered h hn
theorem SlotNumbered.resumeDelivery (src : Source) : SlotNumbered.Statement (.resumeDelivery src) :=
  fun h _ hn => Source.slot_numbered h hn
theorem SlotNumbered.skipNomination (src : Source) : SlotNumbered.Statement (.skipNomination src) :=
  fun h _ hn => Source.slot_numbered h hn
theorem SlotNumbered.abandonDelivery (src : Source) : SlotNumbered.Statement (.abandonDelivery src) :=
  fun h _ hn => Source.slot_numbered h hn
theorem SlotNumbered.collectDocket (src : Source) : SlotNumbered.Statement (.collectDocket src) :=
  fun h _ hn => Source.slot_numbered h hn
theorem SlotNumbered.closePeriod (src : Source) : SlotNumbered.Statement (.closePeriod src) :=
  fun h _ hn => Source.slot_numbered h hn
theorem SlotNumbered.collectStatement (src : Source) : SlotNumbered.Statement (.collectStatement src) :=
  fun h _ hn => Source.slot_numbered h hn
theorem SlotNumbered.takeNotice (src : Source) : SlotNumbered.Statement (.takeNotice src) :=
  fun h _ hn => Source.slot_numbered h hn
theorem SlotNumbered.frameReceive (bytes : List Byte) :
    SlotNumbered.Statement (.frameReceive bytes) := fun _ _ hn => nomatch hn
theorem SlotNumbered.receiveHoldExpiry :
    SlotNumbered.Statement .receiveHoldExpiry := fun _ _ hn => nomatch hn
theorem SlotNumbered.state (slot : Nat) : SlotNumbered.Statement (.state slot) :=
  fun h _ hn => Source.slot_numbered (src := .slot slot) h hn
theorem SlotNumbered.syncOk (slot : Nat) : SlotNumbered.Statement (.syncOk slot) :=
  fun h _ hn => Source.slot_numbered (src := .slot slot) h hn
theorem SlotNumbered.inputs (slot : Nat) : SlotNumbered.Statement (.inputs slot) :=
  fun h _ hn => Source.slot_numbered (src := .slot slot) h hn
theorem SlotNumbered.level (slot : Nat) : SlotNumbered.Statement (.level slot) :=
  fun h _ hn => Source.slot_numbered (src := .slot slot) h hn
theorem SlotNumbered.reading (slot : Nat) : SlotNumbered.Statement (.reading slot) :=
  fun h _ hn => Source.slot_numbered (src := .slot slot) h hn
theorem SlotNumbered.bowserMeter (slot : Nat) : SlotNumbered.Statement (.bowserMeter slot) :=
  fun h _ hn => Source.slot_numbered (src := .slot slot) h hn
theorem SlotNumbered.hoseDone (slot : Nat) : SlotNumbered.Statement (.hoseDone slot) :=
  fun h _ hn => Source.slot_numbered (src := .slot slot) h hn
theorem SlotNumbered.result (slot : Nat) : SlotNumbered.Statement (.result slot) :=
  fun h _ hn => Source.slot_numbered (src := .slot slot) h hn
theorem SlotNumbered.valveShutReply (slot : Nat) : SlotNumbered.Statement (.valveShutReply slot) :=
  fun h _ hn => Source.slot_numbered (src := .slot slot) h hn
theorem SlotNumbered.sendFrame (contenders : List (Nat × Nat)) (answer : AckAnswer) :
    SlotNumbered.Statement (.sendFrame contenders answer) := fun _ _ hn => nomatch hn
theorem SlotNumbered.sendHoldAnswer (accepted : Bool) :
    SlotNumbered.Statement (.sendHoldAnswer accepted) := fun _ _ hn => nomatch hn
theorem SlotNumbered.sendHoldExpiry :
    SlotNumbered.Statement .sendHoldExpiry := fun _ _ hn => nomatch hn
theorem SlotNumbered.replyDeadline (node : Nat) :
    SlotNumbered.Statement (.replyDeadline node) := fun _ _ hn => nomatch hn
theorem SlotNumbered.minuteTick :
    SlotNumbered.Statement .minuteTick := fun _ _ hn => nomatch hn
theorem SlotNumbered.scanDeadline :
    SlotNumbered.Statement .scanDeadline := fun _ _ hn => nomatch hn
theorem SlotNumbered.coolDownDeadline (set : Nat) :
    SlotNumbered.Statement (.coolDownDeadline set) := fun _ _ hn => nomatch hn
theorem SlotNumbered.warmUpDeadline (bus : Nat) :
    SlotNumbered.Statement (.warmUpDeadline bus) := fun _ _ hn => nomatch hn
theorem SlotNumbered.fuelWaitDeadline (bus : Nat) :
    SlotNumbered.Statement (.fuelWaitDeadline bus) := fun _ _ hn => nomatch hn
theorem SlotNumbered.phaseDeadline (bus : Nat) :
    SlotNumbered.Statement (.phaseDeadline bus) := fun _ _ hn => nomatch hn
theorem SlotNumbered.gatheringDeadline (ctx : Nat) :
    SlotNumbered.Statement (.gatheringDeadline ctx) := fun _ _ hn => nomatch hn
theorem SlotNumbered.fillDeadline (ctx : Nat) :
    SlotNumbered.Statement (.fillDeadline ctx) := fun _ _ hn => nomatch hn
theorem SlotNumbered.settleDeadline (ctx : Nat) :
    SlotNumbered.Statement (.settleDeadline ctx) := fun _ _ hn => nomatch hn
theorem SlotNumbered.unknownKindFrame (slot : Nat) : SlotNumbered.Statement (.unknownKindFrame slot) :=
  fun h _ hn => Source.slot_numbered (src := .slot slot) h hn

end Sys2Proof.Laws
end

