-- ==== Sys2Proof/Laws/Tables.lean ====
section
/-! SUPPORT. What the table operations do, and that each keeps the canonical form. -/

namespace Sys2Proof.Machine

variable {α : Type}

/-! ## Reading after writing -/

@[simp] theorem Tbl.find_nil (n : Nat) : Tbl.find ([] : Tbl α) n = none := rfl

theorem Tbl.find_cons (k : Nat) (a : α) (t : Tbl α) (n : Nat) :
    Tbl.find ((k, a) :: t) n = if k = n then some a else Tbl.find t n := rfl

/-- A record written is the one read at its number, and every other number reads as before. -/
theorem Tbl.find_put (t : Tbl α) (n m : Nat) (a : α) :
    (t.put n a).find m = if m = n then some a else t.find m := by
  induction t with
  | nil => simp [Tbl.put, Tbl.find, eq_comm]
  | cons e t ih =>
    obtain ⟨k, b⟩ := e
    unfold Tbl.put
    split
    · next h => subst h; simp only [Tbl.find_cons, eq_comm (a := m)]; split <;> rfl
    · split
      · simp only [Tbl.find_cons, eq_comm (a := m)]
      · next h _ =>
        simp only [Tbl.find_cons, ih]
        by_cases hk : k = m
        · subst hk; simp [h]
        · simp [hk]

/-- Changing record `n` changes what is read there, if it is listed, and nothing elsewhere. -/
theorem Tbl.find_upd (t : Tbl α) (n m : Nat) (f : α → α) :
    (t.upd n f).find m = if m = n then (t.find m).map f else t.find m := by
  induction t with
  | nil => simp [Tbl.upd]
  | cons e t ih =>
    obtain ⟨k, b⟩ := e
    simp only [Tbl.upd, List.map_cons] at ih ⊢
    by_cases hk : k = n
    · subst hk
      simp only [if_true, Tbl.find_cons, ih]
      by_cases hm : k = m
      · subst hm; simp
      · simp [hm, Ne.symm hm]
    · simp only [hk, if_false, Tbl.find_cons, ih]
      by_cases hm : k = m
      · subst hm; simp [hk]
      · simp [hm]

@[simp] theorem Tbl.find_upd_self (t : Tbl α) (n : Nat) (f : α → α) :
    (t.upd n f).find n = (t.find n).map f := by simp [Tbl.find_upd]

theorem Tbl.find_upd_ne (t : Tbl α) {n m : Nat} (f : α → α) (h : m ≠ n) :
    (t.upd n f).find m = t.find m := by simp [Tbl.find_upd, h]

/-- Changing every record changes what is read at each number that is listed. -/
@[simp] theorem Tbl.find_updAll (t : Tbl α) (f : α → α) (m : Nat) :
    (t.updAll f).find m = (t.find m).map f := by
  induction t with
  | nil => rfl
  | cons e t ih =>
    obtain ⟨k, b⟩ := e
    simp only [Tbl.updAll, List.map_cons] at ih ⊢
    simp only [Tbl.find_cons, ih]
    split <;> rfl

/-- A record freed reads as FREE, and every other number reads as before. -/
theorem Tbl.find_del (t : Tbl α) (n m : Nat) :
    (t.del n).find m = if m = n then none else t.find m := by
  induction t with
  | nil => simp [Tbl.del]
  | cons e t ih =>
    obtain ⟨k, b⟩ := e
    simp only [Tbl.del] at ih ⊢
    by_cases hk : k = n
    · subst hk
      simp only [ne_eq, not_true_eq_false, decide_false, Bool.false_eq_true, not_false_eq_true,
        List.filter_cons_of_neg, ih, Tbl.find_cons]
      by_cases hm : m = k
      · simp [hm]
      · simp [hm, Ne.symm hm]
    · simp only [ne_eq, hk, not_false_eq_true, decide_true, List.filter_cons_of_pos, Tbl.find_cons, ih]
      by_cases hm : k = m
      · subst hm; simp [hk]
      · simp [hm]

/-- A record read is listed. -/
theorem Tbl.mem_of_find {t : Tbl α} {n : Nat} {a : α} (h : t.find n = some a) : (n, a) ∈ t := by
  induction t with
  | nil => simp at h
  | cons e t ih =>
    obtain ⟨k, b⟩ := e
    rw [Tbl.find_cons] at h
    split at h
    · next hk => subst hk; injection h with h; subst h; simp
    · exact List.mem_cons_of_mem _ (ih h)

/-- A number that reads as FREE is not listed. -/
theorem Tbl.find_eq_none {t : Tbl α} {n : Nat} : t.find n = none ↔ n ∉ t.nums := by
  induction t with
  | nil => simp [Tbl.nums]
  | cons e t ih =>
    obtain ⟨k, b⟩ := e
    simp only [Tbl.find_cons, Tbl.nums, List.map_cons, List.mem_cons, not_or] at ih ⊢
    by_cases hk : k = n
    · subst hk; simp
    · simp [hk, ih, Ne.symm hk]

/-- In a table whose numbers rise, an entry listed is the record read at its number. -/
theorem Tbl.find_of_mem {t : Tbl α} (h : t.nums.Pairwise (· < ·)) {n : Nat} {a : α} (hm : (n, a) ∈ t) :
    t.find n = some a := by
  induction t with
  | nil => simp at hm
  | cons e t ih =>
    obtain ⟨k, b⟩ := e
    simp only [Tbl.nums, List.map_cons, List.pairwise_cons] at h ih
    rw [Tbl.find_cons]
    rcases List.mem_cons.1 hm with hm | hm
    · injection hm with h1 h2; subst h1 h2; simp
    · have := h.1 n (List.mem_map_of_mem (f := Prod.fst) hm)
      rw [if_neg (by omega)]
      exact ih h.2 hm

/-- The first record that meets a test is listed and meets it. -/
theorem Tbl.numWhere_some {t : Tbl α} {p : α → Bool} {n : Nat} (h : t.numWhere p = some n) :
    ∃ a, (n, a) ∈ t ∧ p a = true := by
  obtain ⟨⟨k, a⟩, he, rfl⟩ := Option.map_eq_some_iff.1 h
  exact ⟨a, List.mem_of_find?_eq_some he, by simpa using List.find?_some he⟩

/-- In canonical form, the first record that meets a test is what its number reads as. -/
theorem Tbl.find_numWhere {t : Tbl α} (hw : t.nums.Pairwise (· < ·)) {p : α → Bool} {n : Nat}
    (h : t.numWhere p = some n) : ∃ a, t.find n = some a ∧ p a = true := by
  obtain ⟨a, hm, hp⟩ := Tbl.numWhere_some h
  exact ⟨a, Tbl.find_of_mem hw hm, hp⟩

/-- The lowest FREE record is FREE, from 1 to the capacity, and every lower number is taken. -/
theorem Tbl.lowestFree_some {t : Tbl α} {cap n : Nat} (h : t.lowestFree cap = some n) :
    t.find n = none ∧ 1 ≤ n ∧ n ≤ cap := by
  have h1 := List.find?_some h
  have h2 := List.mem_of_find?_eq_some h
  simp only [List.mem_range'_1] at h2
  simp only [Option.isNone_iff_eq_none] at h1
  exact ⟨h1, h2.1, by omega⟩

/-! ## Canonical form -/

/-- The canonical form, in words. -/
theorem Tbl.wf_iff {t : Tbl α} {cap : Nat} :
    t.wf cap = true ↔ t.nums.Pairwise (· < ·) ∧ ∀ n ∈ t.nums, 1 ≤ n ∧ n ≤ cap := by
  simp [Tbl.wf]

@[simp] theorem Tbl.nums_upd (t : Tbl α) (n : Nat) (f : α → α) : (t.upd n f).nums = t.nums := by
  simp only [Tbl.upd, Tbl.nums, List.map_map]
  congr 1
  funext e
  simp only [Function.comp]
  split <;> rfl

@[simp] theorem Tbl.nums_updAll (t : Tbl α) (f : α → α) : (t.updAll f).nums = t.nums := by
  simp [Tbl.updAll, Tbl.nums, Function.comp_def]

theorem Tbl.nums_put_subset (t : Tbl α) (n : Nat) (a : α) : ∀ m ∈ (t.put n a).nums, m = n ∨ m ∈ t.nums := by
  induction t with
  | nil => simp [Tbl.put, Tbl.nums]
  | cons e t ih =>
    obtain ⟨k, b⟩ := e
    unfold Tbl.put
    simp only [Tbl.nums] at ih
    split
    · next h => subst h; simp [Tbl.nums]
    · split
      · simp [Tbl.nums]
      · intro m hm
        simp only [Tbl.nums, List.map_cons, List.mem_cons] at hm ⊢
        rcases hm with rfl | hm
        · simp
        · rcases ih m hm with h | h <;> simp [h]

theorem Tbl.put_rising {t : Tbl α} (n : Nat) (a : α) (h : t.nums.Pairwise (· < ·)) :
    (t.put n a).nums.Pairwise (· < ·) := by
  induction t with
  | nil => simp [Tbl.put, Tbl.nums]
  | cons e t ih =>
    obtain ⟨k, b⟩ := e
    have h' := h
    simp only [Tbl.nums, List.map_cons, List.pairwise_cons] at h ih
    unfold Tbl.put
    split
    · next hk => subst hk; exact h'
    · split
      · next hk =>
        simp only [Tbl.nums, List.map_cons, List.pairwise_cons, List.mem_cons]
        refine ⟨fun m hm => ?_, h⟩
        rcases hm with rfl | hm
        · exact hk
        · exact lt_trans hk (h.1 m hm)
      · simp only [Tbl.nums, List.map_cons, List.pairwise_cons]
        refine ⟨fun m hm => ?_, ih h.2⟩
        rcases Tbl.nums_put_subset t n a m hm with rfl | hm
        · omega
        · exact h.1 m hm

/-- Writing a record in the table's range keeps the canonical form. -/
theorem Tbl.wf_put {t : Tbl α} {cap n : Nat} (a : α) (h : t.wf cap = true) (h1 : 1 ≤ n) (h2 : n ≤ cap) :
    (t.put n a).wf cap = true := by
  rw [Tbl.wf_iff] at h ⊢
  refine ⟨Tbl.put_rising n a h.1, fun m hm => ?_⟩
  rcases Tbl.nums_put_subset t n a m hm with rfl | hm
  · exact ⟨h1, h2⟩
  · exact h.2 m hm

/-- Changing a record keeps the canonical form. -/
@[simp] theorem Tbl.wf_upd (t : Tbl α) (cap n : Nat) (f : α → α) : (t.upd n f).wf cap = t.wf cap := by
  simp [Tbl.wf]

/-- Changing every record keeps the canonical form. -/
@[simp] theorem Tbl.wf_updAll (t : Tbl α) (cap : Nat) (f : α → α) : (t.updAll f).wf cap = t.wf cap := by
  simp [Tbl.wf]

/-- Leaving out entries keeps the canonical form. -/
theorem Tbl.wf_filter {t : Tbl α} {cap : Nat} (p : Nat × α → Bool) (h : t.wf cap = true) :
    Tbl.wf (t.filter p) cap = true := by
  rw [Tbl.wf_iff] at h ⊢
  have hs : (Tbl.nums (t.filter p)).Sublist t.nums := List.filter_sublist.map _
  exact ⟨h.1.sublist hs, fun m hm => h.2 m (hs.subset hm)⟩

/-- Freeing a record keeps the canonical form. -/
theorem Tbl.wf_del {t : Tbl α} {cap : Nat} (n : Nat) (h : t.wf cap = true) : (t.del n).wf cap = true :=
  Tbl.wf_filter _ h

/-! ## Records of the state after a change -/

theorem State.set?_updSet (s : State) (n m : Nat) (f : SetRec → SetRec) :
    (s.updSet n f).set? m = if m = n then (s.set? m).map f else s.set? m := Tbl.find_upd ..
theorem State.tank?_updTank (s : State) (n m : Nat) (f : TankRec → TankRec) :
    (s.updTank n f).tank? m = if m = n then (s.tank? m).map f else s.tank? m := Tbl.find_upd ..
theorem State.zone?_updZone (s : State) (n m : Nat) (f : ZoneRec → ZoneRec) :
    (s.updZone n f).zone? m = if m = n then (s.zone? m).map f else s.zone? m := Tbl.find_upd ..
theorem State.bus?_updBus (s : State) (n m : Nat) (f : BusRec → BusRec) :
    (s.updBus n f).bus? m = if m = n then (s.bus? m).map f else s.bus? m := Tbl.find_upd ..
theorem State.feeder?_updFeeder (s : State) (n m : Nat) (f : FeederRec → FeederRec) :
    (s.updFeeder n f).feeder? m = if m = n then (s.feeder? m).map f else s.feeder? m := Tbl.find_upd ..
theorem State.account?_updAccount (s : State) (n m : Nat) (f : AccountRec → AccountRec) :
    (s.updAccount n f).account? m = if m = n then (s.account? m).map f else s.account? m :=
  Tbl.find_upd ..

/-- A property that `f` keeps for every number of a list is kept over the list. -/
theorem forEach_induct {β : Type} (P : State → Prop) (f : β → State → State) (xs : List β)
    (h : ∀ x ∈ xs, ∀ s, P s → P (f x s)) (s : State) (h0 : P s) : P (forEach xs f s) := by
  induction xs generalizing s with
  | nil => exact h0
  | cons x xs ih =>
    exact ih (fun y hy => h y (List.mem_cons_of_mem _ hy)) _ (h x List.mem_cons_self s h0)

@[simp] theorem forEach_nil {β : Type} (f : β → State → State) (s : State) : forEach [] f s = s := rfl
@[simp] theorem forEach_cons {β : Type} (x : β) (xs : List β) (f : β → State → State) (s : State) :
    forEach (x :: xs) f s = forEach xs f (f x s) := rfl

/-- What no call changes, the whole list leaves as it was. -/
theorem forEach_same {β γ : Type} (view : State → γ) (f : β → State → State)
    (h : ∀ x s, view (f x s) = view s) (xs : List β) (s : State) : view (forEach xs f s) = view s :=
  forEach_induct (fun t => view t = view s) f xs (fun x _ t ht => (h x t).trans ht) s rfl

end Sys2Proof.Machine
end

