-- ==== Sys2Proof/Laws/Requests.lean ====
section
/-! SUPPORT. What taking up a request comes to: the checks of R174 one lemma each, so that a proof about a
request starts from its own checks. -/

namespace Sys2Proof.Machine

/-! ## The request is taken up -/

/-- A request that passes check 1 is checked, and its answer delivered to who asked. -/
theorem runRequest_of_takes {k : ReqKind} {src : Source} {s u : State} {p : Party} {q : Request}
    (own : Asked → State → Answered) (h : s.takes k src = some (p, q, u)) :
    runRequest k own src s = deliver p (checkRequest k own p q u) := by
  cases src with
  | port =>
    simp only [State.takes] at h
    split at h
    · next q' hq =>
      split at h
      · next hk =>
        simp only [Option.some.injEq, Prod.mk.injEq] at h
        obtain ⟨rfl, rfl, rfl⟩ := h
        simp only [runRequest, hq, hk, if_true]
      · cases h
    · cases h
  | slot n =>
    simp only [State.takes] at h
    split at h
    · cases h
    · next t ht =>
      split at h
      · next hc =>
        obtain ⟨hm, hk, hb⟩ := hc
        cases hr : t.frame.request with
        | none => rw [hr] at h; cases h
        | some q' =>
          rw [hr] at h
          simp only [Option.map_some, Option.some.injEq, Prod.mk.injEq] at h
          obtain ⟨rfl, rfl, rfl⟩ := h
          simp only [runRequest, dispatchSlot, ht, hm, decide_true, if_true, hk, dispatchRequest, hb,
            Bool.false_eq_true, if_false, hr]
      · cases h

/-- Check 2: the request goes on to check 3 with the weaker of the two rings. -/
theorem runRequest_of_presents {k : ReqKind} {src : Source} {s u : State} {a : Asked}
    (own : Asked → State → Answered) (h : Presents s k src a u) :
    runRequest k own src s = deliver a.party
      (if !a.req.matched k then refuse .outOfRange u
        else if !ringAdmits k (TableId.ofCode a.req.table) a.ring then refuse .notPermitted u
        else own a u) := by
  rw [runRequest_of_takes own h.1]
  unfold checkRequest
  rw [h.2]

@[simp] theorem TableId.ofCode_code (t : TableId) : TableId.ofCode t.code = some t := by cases t <;> rfl

/-- Check 3 is passed by a request that names a record of the table its kind applies to. -/
theorem Asked.names.matched {a : Asked} {t : TableId} {n : Nat} (h : a.names t n) {k : ReqKind}
    (hk : k.appliesTo (some t) = true) (hf : k ≠ .find) (hn : k ≠ .takeNotice) : a.req.matched k = true := by
  obtain ⟨h1, h2, -, -⟩ := h
  simp [Request.matched, h1, h2, hk, hf, hn]

/-- Checks 5 to 7 are passed: the record is not FREE and the right on it is granted. -/
theorem onRecord_of_names {a : Asked} {t : TableId} {n : Nat} {need : Need} {s : State}
    {own : Nat → State → Answered} (h : a.names t n) (hh : s.holds t n = true)
    (hr : a.mayReach t n need s = true) : onRecord a t need own s = own n s := by
  obtain ⟨-, -, h3, h4⟩ := h
  subst h3
  simp [onRecord, h4, hh, hr]

/-- Check 7 fails. -/
theorem onRecord_noRight {a : Asked} {t : TableId} {n : Nat} {need : Need} {s : State}
    {own : Nat → State → Answered} (h : a.names t n) (hh : s.holds t n = true)
    (hr : a.mayReach t n need s = false) : onRecord a t need own s = refuse .notPermitted s := by
  obtain ⟨-, -, h3, h4⟩ := h
  subst h3
  simp [onRecord, h4, hh, hr]

/-- Check 5 fails: the record is FREE. -/
theorem onRecord_free {a : Asked} {t : TableId} {n : Nat} {need : Need} {s : State}
    {own : Nat → State → Answered} (h : a.names t n) (hh : s.holds t n = false) :
    onRecord a t need own s = refuse .noRecord s := by
  obtain ⟨-, -, h3, h4⟩ := h
  subst h3
  simp [onRecord, h4, hh]

/-- Ring 0 passes every right (R171). -/
@[simp] theorem Asked.mayReach_ring0 {a : Asked} (h : a.ring = 0) (t : TableId) (n : Nat) (need : Need)
    (s : State) : a.mayReach t n need s = true := by simp [Asked.mayReach, h]

@[simp] theorem Asked.mayAmend_ring0 {a : Asked} (h : a.ring = 0) (t : TableId) (n : Nat)
    (s : State) : a.mayAmend t n s = true := by simp [Asked.mayAmend, h]

/-! ## The answer -/

@[simp] theorem refuse_state (x : Answer) (s : State) : (refuse x s).state = s := rfl
@[simp] theorem refuse_response (x : Answer) (s : State) : (refuse x s).response = { answer := x } := rfl
@[simp] theorem refuse_release (x : Answer) (s : State) : (refuse x s).release = false := rfl
@[simp] theorem accept_state (x : Answer) (t : TableId) (n : Nat) (s : State) :
    (accept x t n s).state = s := rfl
@[simp] theorem accept_release (x : Answer) (t : TableId) (n : Nat) (s : State) :
    (accept x t n s).release = false := rfl
@[simp] theorem accept_answer (x : Answer) (t : TableId) (n : Nat) (s : State) :
    (accept x t n s).response.answer = x := rfl

/-- An answer on the port is the response of the port and nothing else. -/
@[simp] theorem deliver_port {x : Answered} (h : x.release = false) :
    deliver .port x = x.state.onPort (Port.respond x.response) := by simp [deliver, h]

/-- An answer to a node is an OUTCOME offered to it and nothing else. -/
@[simp] theorem deliver_node {x : Answered} (n : Nat) (h : x.release = false) :
    deliver (.node n) x = offerOutcome n x.response x.state := by simp [deliver, h]

/-- The first check that fails gives the refusal; none when all hold. -/
@[simp] theorem firstFailing_nil : firstFailing [] = none := rfl

theorem firstFailing_cons (b : Bool) (x : Answer) (cs : List (Bool × Answer)) :
    firstFailing ((b, x) :: cs) = if b then firstFailing cs else some x := by
  cases b <;> simp [firstFailing]

/-- Every check holds exactly when none fails. -/
theorem firstFailing_none {cs : List (Bool × Answer)} :
    firstFailing cs = none ↔ ∀ c ∈ cs, c.1 = true := by
  simp [firstFailing]

/-! ## Dispatch of a slot -/

/-- A report that closes nothing is acted on in the state in which its slot is free. -/
theorem dispatchSlot_of_reports {s u : State} {n node : Nat} {m : Message} {mine : Message → Bool}
    {act : Slot → Message → State → State} (h : Reports s n node m u) (hm : mine m = true) :
    ∃ t : Slot, t.frame.source = node ∧ t.closes = none ∧ t.frame.message none = m
      ∧ dispatchSlot n mine act s = act t m u := by
  obtain ⟨t, h1, h2, h3, h4, h5, h6⟩ := h
  refine ⟨t, h2, h3, h4, ?_⟩
  subst h5 h2
  simp [dispatchSlot, h1, h3, h4, hm, h6]

/-- A reply of the right kind is acted on with the exchange it closed. -/
theorem dispatchSlot_of_replies {s u : State} {n node : Nat} {m : Message} {e : Exchange}
    {mine : Message → Bool} {act : Slot → Message → State → State} (h : Replies s n node m e u)
    (hm : mine m = true) :
    ∃ t : Slot, t.frame.source = node ∧ t.closes = some e ∧ t.answers = some e
      ∧ dispatchSlot n mine act s = act t m u := by
  obtain ⟨t, h1, h2, h3, h4, h5, h6, h7⟩ := h
  refine ⟨t, h2, h3, by simp [Slot.answers, h3, h4, Option.filter], ?_⟩
  subst h6 h2
  simp [dispatchSlot, h1, h3, h5, hm, h7]

/-- A frame that closes nothing has no exchange to end without an answer. -/
@[simp] theorem closedUnanswered_none (s : State) : closedUnanswered none s = s := rfl

theorem wrongKind_of_reports {t : Slot} (h : t.closes = none) (s : State) : wrongKind t s = s := by
  simp [wrongKind, h]

theorem wrongKind_of_answers {t : Slot} {e : Exchange} (h : t.answers = some e) (s : State) :
    wrongKind t s = s := by
  simp [wrongKind, h]

@[simp] theorem Slot.answers_none {t : Slot} (h : t.closes = none) : t.answers = none := by
  simp [Slot.answers, h]

/-- RESET asserted, an event of the line or of a timer does nothing. -/
@[simp] theorem unlessHeld_held {f : State → State} {s : State} (h : s.resetHeld = true) :
    unlessHeld f s = s := by simp [unlessHeld, h]
@[simp] theorem unlessHeld_free {f : State → State} {s : State} (h : s.resetHeld = false) :
    unlessHeld f s = f s := by simp [unlessHeld, h]

/-! ## AMEND and RETIRE -/

/-- An AMEND comes to the refusal it was given, or to an acceptance of what it writes. -/
theorem amendUnless_cases (refusal : Option Answer) (t : TableId) (n : Nat) (adjusted : Bool)
    (write : State → State) (s : State) :
    (∃ a, refusal = some a ∧ amendUnless refusal t n adjusted write s = refuse a s)
    ∨ (refusal = none ∧ amendUnless refusal t n adjusted write s =
        accept (if adjusted then .doneAdjusted else .done) t n (write s)) := by
  cases refusal with
  | some a => exact .inl ⟨a, rfl, rfl⟩
  | none => exact .inr ⟨rfl, rfl⟩

/-- A RETIRE comes to its first refusal, or leaves the record FREE. -/
theorem retireWith_cases (t : TableId) (checks : List (Bool × Answer)) (n : Nat) (write : State → State)
    (s : State) :
    (∃ a, firstFailing checks = some a ∧ retireWith t checks n write s = refuse a s)
    ∨ (firstFailing checks = none ∧ retireWith t checks n write s = retired t n (write s)) := by
  unfold retireWith
  cases h : firstFailing checks with
  | some a => exact .inl ⟨a, rfl, rfl⟩
  | none => exact .inr ⟨rfl, rfl⟩

/-! ## Transactions of the port (R192) -/

@[simp] theorem transact_nil (bits : Nat) (p : Port) : transact [] bits p = p.zeros 0 := rfl
@[simp] theorem transact_write (bytes : List Byte) (bits : Nat) (p : Port) :
    transact (1 :: bytes) bits p = writePort bytes bits p := rfl
@[simp] theorem transact_read (bytes : List Byte) (bits : Nat) (p : Port) :
    transact (2 :: bytes) bits p = readPort bytes.length p := rfl
theorem transact_other {code : Byte} (h1 : code ≠ 1) (h2 : code ≠ 2) (bytes : List Byte) (bits : Nat)
    (p : Port) : transact (code :: bytes) bits p = p.zeros (bytes.length + 1) := by
  have w : ¬ code = Config.writeCode := h1
  have r : ¬ code = Config.readCode := h2
  simp [transact, w, r]

/-! ## The recent rate (R31) and a change of op state (R101) -/

theorem inRateRange_of_le {rate : Nat} (h : rate ≤ 4294967295) : inRateRange rate = rate := if_pos h
theorem inRateRange_le (rate : Nat) : inRateRange rate ≤ 4294967295 := by
  unfold inRateRange
  split
  · assumption
  · exact Nat.le_of_lt_succ (Config.rateBeyond rate).isLt

/-- A change of op state that reaches no bus hands nothing on. -/
theorem seeBuses_nil (set : Nat) (was : OpState) (w : Follow) (s : State) :
    seeBuses set was [] w s = finish w s := rfl

/-- A bus that does not become LOST is taken whole at its place. -/
theorem seeBuses_keeps {set : Nat} {was : OpState} {b : Nat} {s : State}
    (h : (busSeesChange set was b s).2.loses = false) (bs : List Nat) (w : Follow) :
    seeBuses set was (b :: bs) w s =
      seeBuses set was bs w (finish (busSeesChange set was b s).2 (busSeesChange set was b s).1) := by
  simp [seeBuses, h]

end Sys2Proof.Machine
end

