-- ==== Sys2Proof/Tests/Slice0.lean ====
section
/-! SUPPORT. Tests of the model against the manual's worked examples and tables, the smoke tests of WellFormed,
and for each statement with hypotheses a theorem `witness_…` with concrete states that meet them, clause by
clause. -/

open Sys2Proof Sys2Proof.Machine

namespace Sys2Proof.Tests

/-! ## WellFormed: each check refuses an ill-formed command -/

theorem wf_refuses_slot_0 : (Instr.lookup (.slot 0)).wf = false ∧ (Instr.state 0).wf = false := by decide
theorem wf_refuses_slot_5 : (Instr.takeNotice (.slot 5)).wf = false ∧ (Instr.unknownKindFrame 5).wf = false := by
  decide
theorem wf_refuses_whole_byte_of_bits : (Instr.write [1] 8).wf = false ∧ (Instr.write [1] 7).wf = true := by decide
theorem wf_refuses_class_4 : (Instr.sendFrame [(4, 2)] .ack).wf = false := by decide
theorem wf_refuses_own_address : (Instr.sendFrame [(0, 1)] .ack).wf = false
    ∧ (Instr.replyDeadline 1).wf = false ∧ (Instr.replyDeadline 63).wf = false := by decide
theorem wf_refuses_set_49 : (Instr.coolDownDeadline 49).wf = false ∧ (Instr.coolDownDeadline 0).wf = false := by
  decide
theorem wf_refuses_bus_33 : (Instr.warmUpDeadline 33).wf = false ∧ (Instr.fuelWaitDeadline 0).wf = false
    ∧ (Instr.phaseDeadline 33).wf = false := by decide
theorem wf_refuses_ctx_3 : (Instr.gatheringDeadline 3).wf = false ∧ (Instr.fillDeadline 0).wf = false
    ∧ (Instr.settleDeadline 3).wf = false := by decide

/-! ## A small site -/

/-- A running set and a stopped one on one bus, a feeder, a tank with a gauge, and nodes of each role. -/
def site : State :=
  { State.reset with
    clock := 1000
    minutesTaken := 16
    nodes := [(1, ownNode), (2, { role := .equipment, ring := 3 }), (3, { role := .equipment, ring := 3 }),
      (4, { role := .equipment, ring := 3 }), (5, { role := .equipment, ring := 3 }),
      (6, { role := .equipment, ring := 3 }), (7, { role := .handheld, ring := 3 }),
      (8, { role := .stageStation, ring := 1 })]
    zones := [(1, { tag := 1, code1 := .full, code3 := .read, busCount := 1 }), (2, { tag := 2 })]
    tanks := [(1, { tag := 11, gauge := some 6, capacity := 100000, level := 50000, suppliedSets := 2
                    code := .full })]
    sets := [(1, { status := .inUse, tag := 5, node := 2, rated := 200, curve := ⟨240, 225, 215, 212, 218⟩
                   tank := some 1, op := .running, supplies := 1 }),
      (2, { status := .inUse, tag := 132, node := 3, rated := 200, curve := ⟨240, 225, 215, 212, 218⟩
            tank := some 1 })]
    tagIndex := [(5, [1, 2])]
    buses := [(1, { zone := 1, panel := 4, inputs := [some 1, some 2], state := .steady
                    supplying := some 1, feederCount := 1 })]
    feeders := [(1, { bus := 1, account := 2, meter := 5, rating := 100, refReading := 1000, refTime := 940 })]
    accounts := [(1, overheadAccount), (2, { status := .opened, tag := 22, code := .full, feederCount := 1 })] }

/-- A request frame at ring 0 on a record named by its index. -/
def reqOf (k : ReqKind) (t : TableId) (i : Nat) (fs : List (Nat × Nat)) : Request :=
  { kind := k.code, ring := 0, table := t.code, selector := 0, index := i, fields := fs }

/-- The request waits in the request slot. -/
def ask (q : Request) (s : State) : State := s.onPort (fun p => { p with request := some q })

/-- The request as it is checked, from the control port. -/
def asked (q : Request) : Asked := { party := .port, ring := q.ring, req := q }

/-- A request of any kind with a valid ring on the control port is presented to its checks. -/
theorem presents_ask (k : ReqKind) (t : TableId) (i : Nat) (fs : List (Nat × Nat)) (ring : Nat)
    (h : ring = 0 ∨ ring = 1 ∨ ring = 3) (s : State) :
    Presents (ask { reqOf k t i fs with ring } s) k .port (asked { reqOf k t i fs with ring })
      (ask { reqOf k t i fs with ring } s) := by
  rcases h with rfl | rfl | rfl <;> cases k <;> exact ⟨rfl, rfl⟩

/-- A frame waits in slot 1, and an earlier acknowledgement closed the exchange it answers, if any. -/
def heard (cls : FrameClass) (source kind : Nat) (payload : List Byte) (closes : Option Exchange) (s : State) :
    State :=
  s.onLine (fun l => { l with slots := [{ number := 1, frame := { cls, source, kind, payload }, closes }] })

/-- A report that waits in slot 1 from a node the site knows. -/
theorem reports_heard {source kind : Nat} {payload : List Byte} {s : State} {m : Message}
    (hl : s.line = {}) (hm : ({ cls := .alert, source, kind, payload } : InFrame).message none = m)
    (hk : s.knownNode source = true) : Reports (heard .alert source kind payload none s) 1 source m s := by
  refine ⟨{ number := 1, frame := { cls := .alert, source, kind, payload }, closes := none }, ?_, rfl, rfl, hm,
    ?_, hk⟩
  · simp [heard, Line.dispatchable]
  · cases s
    simp only at hl
    subst hl
    rfl

/-- A reply that waits in slot 1 and closed an exchange. -/
theorem replies_heard {source kind : Nat} {payload : List Byte} {e : Exchange} {s : State} {m : Message}
    (hl : s.line = {}) (hm : ({ cls := .reply, source, kind, payload } : InFrame).message (some e) = m)
    (he : kind = replyKind e.kind) (hk : s.knownNode source = true) :
    Replies (heard .reply source kind payload (some e) s) 1 source m e s := by
  refine ⟨{ number := 1, frame := { cls := .reply, source, kind, payload }, closes := some e }, ?_, rfl, rfl, he,
    hm, ?_, hk⟩
  · simp [heard, Line.dispatchable]
  · cases s
    simp only at hl
    subst hl
    rfl

/-! ## The manual's worked examples -/

set_option maxRecDepth 20000 in
/-- 10, "Formats": the CRC of the digits 1 to 9. -/
theorem crc_check_value : crc [0x31, 0x32, 0x33, 0x34, 0x35, 0x36, 0x37, 0x38, 0x39] = 0x29B1#16 := by decide

/-- 02, the table of curve values (R29). -/
theorem curve_table : (⟨240, 225, 215, 212, 218⟩ : Curve).sfc 540 = 215
    ∧ (⟨240, 225, 215, 212, 218⟩ : Curve).sfc 700 = 213 ∧ (⟨240, 225, 215, 212, 218⟩ : Curve).sfc 100 = 234
    ∧ (⟨240, 225, 215, 212, 218⟩ : Curve).sfc 900 = 215 ∧ (⟨240, 225, 215, 212, 218⟩ : Curve).sfc 1000 = 218 := by
  decide

/-- 02, "Worked example": set 14 of 200 kW before the pass end. -/
def set14 : SetRec :=
  { status := .inUse, rated := 200, curve := ⟨240, 225, 215, 212, 218⟩, noLoad := 3000, op := .running
    residue := 700, recentRate := 24000, energy := 1800, tank := some 6 }

theorem burn_example : (set14.burn 60).power = 108000 ∧ (set14.burn 60).load = 540
    ∧ (set14.burn 60).whole = 437 ∧ (set14.burn 60).residue = 700 ∧ (set14.burn 60).rate = 24555 := by decide

theorem endurance_example : enduranceOf 249563 24555 = 609 := by decide

/-- R31: a falling rate moves down by the truncated quarter. -/
theorem rate_falls : smoothRate 24555 10000 = 20917 := by decide

/-- R31: a rate at the top of its range. -/
theorem rate_at_its_top : smoothRate 4294967295 4294967295 = 4294967295 := by decide

/-- 02: tank 11 at 300 ml, whose set burns 437 ml and then 400 ml. -/
theorem tank_runs_dry : (TankRec.takeFuel 437 { level := 300 }).level = 0
    ∧ (TankRec.takeFuel 437 { level := 300 }).shortfall = 137 := by decide

/-- 07, the charge of account 4: 331 cents. -/
theorem charge_example : charge 5000 4500 556 19000 = 331 := by decide

/-- 07, set 14's 1,000 ml over 5,000, 3,000 and 1,000 Wh: 556, 333 and 111 ml. -/
theorem apportion_example : ({ periodBurnt := 1000, draws := [(4, 5000), (7, 3000), (9, 1000)] } : SetRec).apportioned
    = [(4, 556), (7, 333), (9, 111)] := by decide

/-- 01: tags 5, 132 and 259 share bucket 5, which holds two. -/
theorem tags_share_a_bucket : bucketOf 5 = 5 ∧ bucketOf 132 = 5 ∧ bucketOf 259 = 5 := by decide

/-- R70: a register that wraps from 16,777,215 to 0 still measures the energy between. -/
theorem meter_wraps : meterDelta 16777210 4 = 10 := by decide

/-- R170: ring 1 claimed on a ring-3 link is ring 3; ring 2 is invalid. -/
theorem weaker_ring : effectiveRing 3 1 = some 3 ∧ effectiveRing 1 3 = some 3 ∧ effectiveRing 0 2 = none := by
  decide

/-- R157: period 65,535 is followed by 1. -/
theorem period_number_wraps : nextPeriod 65535 = 1 ∧ nextPeriod 40 = 41 := by decide

/-- R179: the lower class wins, and within a class the lower address; the part's address is 1. -/
theorem order_yields_to_alert : winsLine .order [(0, 9)] = false ∧ winsLine .order [(1, 9), (2, 2)] = true := by
  decide

/-! ## One step -/

theorem step_takes_the_front : step (site.setPending [.minuteTick, .scanDeadline])
    = exec .minuteTick (site.setPending [.scanDeadline]) := rfl

/-- On an empty queue a second passes, and the minute tick of second 1,020 is queued (log 1). -/
theorem idle_lets_a_second_pass : step { site with clock := 1019, pass := { scanDeadline := none } }
    = .next { site with clock := 1020, pass := { scanDeadline := none }, pending := [.minuteTick] } := rfl

/-- R199: RESTARTED with value 1 is the first notice after a release. -/
theorem restarted_after_release : ∃ s, exec .lineReset site = .next s ∧ ∃ t, exec .lineResetRelease s = .next t
    ∧ t.port.notices.map Notice.kind = [.restarted] ∧ t.port.attn = true := ⟨_, rfl, _, rfl, by decide, by decide⟩

/-- The word of a row: the table gives no bits, so none is read. -/
theorem no_row_has_bits : decodeTableWord 0 0 = none ∧ decodeTableWord 8 255 = none := by decide

/-! ## Witnesses: the port and the resets -/

def answered : State := site.onPort (Port.respond { answer := .done })

theorem witness_ReadTransaction : answered.resetHeld = false ∧ answered.port.response = some { answer := .done }
    ∧ ({ answer := .done } : Response).bytes.length = 8 ∧ site.resetHeld = false
    ∧ site.port.response = none := by decide

theorem witness_WriteOccupied : (ask (reqOf .lookup .sets 1 []) site).resetHeld = false
    ∧ (ask (reqOf .lookup .sets 1 []) site).port.request.isSome = true
    ∧ answered.port.response.isSome = true := by decide

/-- START_PASS as its bytes, the same with kind 22, and a length field one too great. -/
theorem witness_WriteTaken : site.resetHeld = false ∧ site.port.request = none ∧ site.port.response = none
    ∧ parseRequest [0, 8, 11, 0, 9, 0, 0, 0, 0, 1] 0 = some (reqOf .startPass .site 1 [])
    ∧ (ReqKind.ofCode 11).isSome = true
    ∧ parseRequest [0, 8, 22, 0, 9, 0, 0, 0, 0, 1] 0
      = some { kind := 22, ring := 0, table := 9, selector := 0, index := 1, fields := [] }
    ∧ (3 : Byte) ≠ 1 ∧ (3 : Byte) ≠ 2 ∧ ReqKind.ofCode 22 = none ∧ beNat [0, 9] + 2 ≠ ([0, 9, 11, 0, 9, 0, 0, 0, 0, 1] : List Byte).length := by
  decide

def takeReq : Request := { kind := 21, ring := 3, table := 0, selector := 0, index := 0, fields := [] }

theorem witness_TakeNotice : (ask takeReq site).port.request = some takeReq ∧ takeReq.kind = 21
    ∧ takeReq.table = 0 ∧ takeReq.ring = 3 ∧ (ask takeReq site).port.notices = [coldNotice]
    ∧ (ask takeReq (site.onPort (fun p => { p with notices := [] }))).port.notices = [] := by decide

def lowFuelNotice : Notice := { kind := .lowFuel, table := .tanks, index := 1, value := some 100, time := 5 }

/-- A notice that waits, and queues of 31 and of 32. -/
theorem witness_NoticeQueued : lowFuelNotice.kind.coalesces = true
    ∧ (∃ m ∈ [lowFuelNotice], m.kind = lowFuelNotice.kind ∧ m.table = lowFuelNotice.table
      ∧ m.index = lowFuelNotice.index)
    ∧ coldNotice.kind.coalesces = false ∧ (List.replicate 31 coldNotice).length < 32
    ∧ 32 ≤ (List.replicate 32 coldNotice).length := by decide

theorem witness_LineReset : site.resetHeld = false := rfl

theorem witness_LineResetRelease : (lineReset site).resetHeld = true ∧ (lineReset site).port = {} := ⟨rfl, rfl⟩

theorem witness_PortInvariantKept : ∃ t : State, site.port.ok ∧ step site = .next t := by
  refine ⟨_, ?_, rfl⟩
  unfold Port.ok
  decide

theorem witness_TablesInvariantKept : ∃ t : State, site.tablesOk = true ∧ step site = .next t :=
  ⟨_, by decide, rfl⟩

theorem witness_LineInvariantKept : ∃ t : State, site.line.queuesOk ∧ step site = .next t := by
  refine ⟨_, ?_, rfl⟩
  unfold Line.queuesOk
  decide

/-! ## Witnesses: the site line -/

/-- A frame without a payload, with its CRC. -/
def bare (b0 b1 kind : Byte) : List Byte :=
  [b0, b1, kind, 0] ++ beBytes 2 (crc [b0, b1, kind, 0]).toNat

def anOrder (id dest : Nat) : OutFrame :=
  { id, cls := .order, dest, kind := 32, payload := [], purpose := .nothing }

theorem witness_SiteFrameRoundTrip :
    let f : OutFrame := { anOrder 1 62 with kind := 255, payload := List.replicate 32 7 }
    f.dest ≤ 62 ∧ f.kind < 256 ∧ f.payload.length ≤ 32 := by decide

def slotOf (n : Nat) : Slot :=
  { number := n, frame := { cls := .alert, source := 2, kind := 50, payload := [] }, closes := none }

def withSlots (ns : List Nat) : State := site.onLine (fun l => { l with slots := ns.map slotOf })

set_option maxRecDepth 20000 in
/-- No frame, a frame for node 3, SYNC_OK as an ALERT into slot 1 and slot 4, a REPLY, and four full slots. -/
theorem witness_FrameReceive : parseFrame [] = none
    ∧ parseFrame (bare 2 3 50) = some (3, { cls := .alert, source := 2, kind := 50, payload := [] })
    ∧ parseFrame (bare 2 1 50) = some (1, { cls := .alert, source := 2, kind := 50, payload := [] })
    ∧ parseFrame (bare 130 1 50) = some (1, { cls := .reply, source := 2, kind := 50, payload := [] })
    ∧ site.resetHeld = false ∧ site.line.rxHold = none ∧ site.line.txHold = none ∧ site.line.slots = []
    ∧ (∀ t ∈ (withSlots [1, 2, 3]).line.slots, t.number ≠ 4)
    ∧ (∀ k ∈ [1, 2, 3], ∃ t ∈ (withSlots [1, 2, 3]).line.slots, t.number = k)
    ∧ (∀ k ∈ [1, 2, 3, 4], ∃ t ∈ (withSlots [1, 2, 3, 4]).line.slots, t.number = k) := by decide

theorem witness_ReceiveHoldExpiry :
    let s := site.onLine (fun l => { l with rxHold := some (slotOf 1).frame })
    s.resetHeld = false ∧ s.line.rxHold = some (slotOf 1).frame := by decide

/-- A frame of kind 99 in slot 1 from node 2, and from the FREE node 40. -/
theorem witness_UnknownKindFrame :
    let s := heard .alert 2 99 [] none site
    let t := heard .alert 40 99 [] none site
    (s.line.dispatchable 1).isSome = true ∧ ({ cls := .alert, source := 2, kind := 99, payload := [] } : InFrame).message
      none = .unknown ∧ s.line.rxHold = none ∧ (s.node? 2).isSome = true
    ∧ (t.line.dispatchable 1).isSome = true ∧ t.node? 40 = none := by decide

/-- An ORDER to node 2, against an ALERT, against the same class from node 2, and alone. -/
theorem witness_SendFrame :
    let s := site.onLine (fun l => { l with queue := [anOrder 1 2] })
    let t := site.onLine (fun l => { l with queue := [anOrder 1 0] })
    let r := site.onLine (fun l => { l with queue := [{ anOrder 1 2 with cls := .reply }] })
    s.resetHeld = false ∧ s.line.rxHold = none ∧ s.line.txHold = none
    ∧ s.line.nextToSend = some (anOrder 1 2) ∧ (∃ c ∈ [(0, 62)], c.1 < (anOrder 1 2).cls.code)
    ∧ (∀ c ∈ [(1, 2)], (anOrder 1 2).cls.code = c.1 ∧ 1 < c.2)
    ∧ t.line.nextToSend = some (anOrder 1 0) ∧ (anOrder 1 0).dest = 0
    ∧ r.line.nextToSend = some { anOrder 1 2 with cls := .reply } := by decide

/-- An ORDER held by its destination, with no reply awaited; it meets all three clauses. -/
theorem witness_SendHold :
    let s := site.onLine (fun l => { l with queue := [anOrder 1 2], txHold := some 1 })
    s.resetHeld = false ∧ s.line.txHold = some (anOrder 1 2).id
    ∧ s.line.queue.find? (fun g => g.id = (anOrder 1 2).id) = some (anOrder 1 2)
    ∧ (anOrder 1 2).cls = .order ∧ (anOrder 1 2).purpose = .nothing := by decide

def waiting (node : Nat) (p : Purpose) (s : State) : State :=
  s.onLine (fun l => { l with exchanges := [{ id := 1, dest := node, kind := 41, purpose := p }] })

/-- A read of feeder 1 that a boundary asked for is in flight. -/
def reading1 : State := site.updFeeder 1 (FeederRec.reading 1 true false)

theorem witness_ReplyDeadline : site.resetHeld = false ∧ site.line.exchangeWith 5 = none
    ∧ ((waiting 5 .nothing site).line.exchangeWith 5).map Exchange.purpose = some .nothing
    ∧ ((waiting 6 (.askLevel 1 0) site).line.exchangeWith 6).map Exchange.purpose = some (.askLevel 1 0)
    ∧ ((waiting 5 (.readMeter 1) reading1).line.exchangeWith 5).map (fun e => (e.id, e.purpose))
      = some (1, .readMeter 1)
    ∧ ((waiting 5 (.readMeter 1) reading1).feederRec 1).inFlight
      = some { frame := 1, boundary := true, servesPass := false } := by decide

theorem witness_QueueOrder : [anOrder 1 2, { anOrder 2 3 with cls := .query }].Pairwise
    (fun a b => a.cls.code ≤ b.cls.code) := by decide

/-! ## Witnesses: requests and rights -/

theorem witness_EffectiveRing :
    let q := { reqOf .lookup .sets 1 [] with ring := 2 }
    (ask q site).takes .lookup .port = some (.port, q, ask q site) ∧ q.ring ≠ 0 ∧ q.ring ≠ 1 ∧ q.ring ≠ 3 :=
  ⟨rfl, by decide, by decide, by decide⟩

/-- RETIRE of the part's own node is refused. -/
theorem witness_RefusedRequestWritesNothing : ∃ t : State,
    exec (ReqKind.retire.command .port) (ask (reqOf .retire .nodes 1 []) site) = .next t
    ∧ t.port.response.map Response.answer = some .notPermitted := ⟨_, rfl, by decide⟩

/-- A LOOKUP from node 2, which is EQUIPMENT, and a TAKE_NOTICE from the stage station. -/
theorem witness_EquipmentBarred :
    let s := heard .query 2 1 [0, 1, 0, 0, 0, 0, 1] none site
    let t := heard .query 8 21 [1, 0, 0, 0, 0, 0, 0] none site
    (s.line.dispatchable 1).isSome = true ∧ (s.nodeRec 2).role = .equipment ∧ (s.node? 2).isSome = true
    ∧ ({ cls := .query, source := 2, kind := 1, payload := [] } : InFrame).message none = .request .lookup
    ∧ (t.line.dispatchable 1).isSome = true ∧ (t.node? 8).isSome = true
    ∧ ({ cls := .query, source := 8, kind := 21, payload := [] } : InFrame).message none = .request .takeNotice := by
  decide

/-- A whole record, two of its fields, a field the table has not, and the header. -/
theorem witness_LookupRecord :
    (∀ fs ∈ ([[], [(2, 0), (1285, 0)], [(999, 0)]] : List (List (Nat × Nat))),
      Presents (ask (reqOf .lookup .sets 1 fs) site) .lookup .port (asked (reqOf .lookup .sets 1 fs))
        (ask (reqOf .lookup .sets 1 fs) site))
    ∧ Presents (ask (reqOf .lookup .site 0 []) site) .lookup .port (asked (reqOf .lookup .site 0 []))
        (ask (reqOf .lookup .site 0 []) site)
    ∧ (site.recordPairs .sets 1).isSome = true ∧ (∀ p ∈ [(2, 0), (1285, 0)], p.1 ∈ TableId.sets.fieldIds)
    ∧ 999 ∉ TableId.sets.fieldIds :=
  ⟨fun fs _ => presents_ask .lookup .sets 1 fs 0 (.inl rfl) site,
    presents_ask .lookup .site 0 [] 0 (.inl rfl) site, by decide⟩

def findReq (t : TableId) (key ring : Nat) : Request :=
  { reqOf .find t key [] with selector := 1, ring }

/-- A tag that is held, at a ring that may read and one that may not, and a tag that is not. -/
theorem witness_FindByKey :
    Presents (ask (findReq .sets 132 1) site) .find .port (asked (findReq .sets 132 1)) (ask (findReq .sets 132 1) site)
    ∧ site.findKey .sets 132 = some 2 ∧ (site.recordPairs .sets 2).isSome = true
    ∧ (asked (findReq .sets 132 1)).mayReach .sets 2 .read site = true
    ∧ (asked (findReq .sets 132 3)).mayReach .sets 2 .read site = false ∧ site.findKey .sets 9 = none
    ∧ site.tablesOk = true ∧ site.findKey .zones 2 = some 2 ∧ site.findKey .buses 4 = some 1
    ∧ site.findKey .feeders 5 = some 1 := ⟨⟨rfl, rfl⟩, by decide⟩

/-- Node 9 at its first and last rings and roles, address 63, role 3, ring 2, and an entry in use. -/
theorem witness_EnrolNode :
    (∀ p ∈ [(2, 0, 0), (62, 2, 3), (63, 0, 0), (1, 0, 0), (9, 3, 0), (9, 0, 2)],
      let q := reqOf .enrol .nodes p.1 [(2, p.2.1), (3, p.2.2)]
      Presents (ask q site) .enrol .port (asked q) (ask q site))
    ∧ (NodeRole.ofCode 2).isSome = true ∧ (site.node? 2).isSome = true ∧ site.node? 62 = none :=
  ⟨fun p _ => presents_ask .enrol .nodes p.1 [(2, p.2.1), (3, p.2.2)] 0 (.inl rfl) site, by decide⟩

/-- The ends of the three ranges, and one past an end. -/
theorem witness_AmendSite :
    (∀ p ∈ [(10, 15, 0), (600, 1440, 1439), (601, 15, 0), (10, 14, 1440)],
      let q := reqOf .amend .site 1 [(1, p.1), (2, p.2.1), (3, p.2.2)]
      Presents (ask q site) .amend .port (asked q) (ask q site) ∧ (asked q).names .site 1)
    ∧ site.site.closeState ≠ .held :=
  ⟨fun p _ => ⟨presents_ask .amend .site 1 [(1, p.1), (2, p.2.1), (3, p.2.2)] 0 (.inl rfl) site,
    rfl, rfl, rfl, by decide⟩, by decide⟩

/-! ## Witnesses: sets, tanks and zones -/

def enrolReq (tag : Nat) : Request :=
  reqOf .enrol .sets 0 [(2, tag), (3, 4), (4, 10), (261, 100), (517, 999), (773, 100), (1029, 999), (1285, 100), (6, 50000)]

/-- Tag 5 is held, tag 259 finds its bucket full, tag 1 has room in a table with a FREE record and in one
without; node 4 is EQUIPMENT and no set names it. -/
theorem witness_EnrolSet :
    (∀ tag ∈ [5, 259, 1, 4294967295], Presents (ask (enrolReq tag) site) .enrol .port (asked (enrolReq tag))
      (ask (enrolReq tag) site))
    ∧ (∃ r, site.node? 4 = some r ∧ r.role = .equipment) ∧ (∃ n ∈ site.bucket 5, (site.setRec n).tag = 5)
    ∧ (∀ n ∈ site.bucket 259, (site.setRec n).tag ≠ 259) ∧ (∀ e ∈ site.sets, e.2.node ≠ 4)
    ∧ 2 ≤ (site.bucket 259).length ∧ (site.bucket 1).length < 2 ∧ site.sets.lowestFree 48 = some 3
    ∧ Tbl.lowestFree ((List.range' 1 48).map (fun n => (n, { status := .inUse : SetRec }))) 48 = none :=
  ⟨fun tag _ => ⟨rfl, rfl⟩, ⟨_, rfl, by decide⟩, by decide⟩

set_option maxRecDepth 20000 in
/-- A STATE for set 1 (RUNNING, as it is, and FAULT), and one whose tag matches no set. -/
theorem witness_StateReport :
    Reports (heard .alert 2 49 [0, 0, 0, 5, 0, 0, 0, 2] none site) 1 2 (.state 5 .running) site
    ∧ Reports (heard .alert 2 49 [0, 0, 0, 5, 0, 0, 0, 4] none site) 1 2 (.state 5 .fault) site
    ∧ Reports (heard .alert 2 49 [0, 0, 0, 6, 0, 0, 0, 2] none site) 1 2 (.state 6 .running) site
    ∧ site.setReporting 2 5 = some 1 ∧ site.set? 1 = some (site.setRec 1) ∧ (site.setRec 1).op = .running
    ∧ (∀ e ∈ site.sets, ¬ (e.2.node = 2 ∧ e.2.tag = 6)) :=
  ⟨reports_heard rfl (by decide) (by decide), reports_heard rfl (by decide) (by decide),
    reports_heard rfl (by decide) (by decide), by decide⟩

def exchangeOf (kind dest : Nat) (p : Purpose) : Exchange := { id := 1, dest, kind, purpose := p }

/-- Sets with nothing to supply, as COOL and STOP find them. -/
def idleSet (op : OpState) : State :=
  (site.updSet 1 (fun r => { r with op, supplies := 0 })).updBus 1 (fun b =>
    { b with state := .lost, supplying := none })

set_option maxRecDepth 20000 in
/-- COOL accepted by a set that supplies nothing, by one that supplies a bus, and refused; STOP accepted by a
COOLING set, by a STOPPED one, and refused; an order whose reply is not awaited. -/
theorem witness_OrderResult :
    (∀ s ∈ [idleSet .running, site, idleSet .cooling, idleSet .stopped],
      Replies (heard .reply 2 56 [0, 0, 0, 1] (some (exchangeOf 33 2 (.cool 1 0))) s) 1 2 (.result true none)
        (exchangeOf 33 2 (.cool 1 0)) s
      ∧ Replies (heard .reply 2 56 [0, 0, 0, 0] (some (exchangeOf 33 2 (.cool 1 0))) s) 1 2 (.result false none)
        (exchangeOf 33 2 (.cool 1 0)) s
      ∧ Replies (heard .reply 2 56 [0, 0, 0, 1] (some (exchangeOf 34 2 (.stop 1 0))) s) 1 2 (.result true none)
        (exchangeOf 34 2 (.stop 1 0)) s
      ∧ Replies (heard .reply 2 56 [0, 0, 0, 1] (some (exchangeOf 46 2 .nothing)) s) 1 2 (.result true none)
        (exchangeOf 46 2 .nothing) s)
    ∧ (∀ x ∈ (idleSet .running).buses, x.2.supplying ≠ some 1) ∧ (site.setRec 1).serial = 0 ∧ (site.set? 1).isSome = true
    ∧ ((idleSet .running).setRec 1).op = .running ∧ ((idleSet .running).setRec 1).supplies = 0
    ∧ ((idleSet .running).setRec 1).chBus = none ∧ (site.setRec 1).op = .running ∧ (site.setRec 1).supplies ≠ 0
    ∧ ((idleSet .cooling).setRec 1).op = .cooling ∧ ((idleSet .stopped).setRec 1).op = .stopped := by
  refine ⟨fun s hs => ?_, by decide⟩
  have h : s.line = {} ∧ s.knownNode 2 = true := by
    simp only [List.mem_cons, List.not_mem_nil, or_false] at hs
    rcases hs with rfl | rfl | rfl | rfl <;> exact ⟨rfl, by decide⟩
  exact ⟨replies_heard h.1 (by decide) (by decide) h.2, replies_heard h.1 (by decide) (by decide) h.2,
    replies_heard h.1 (by decide) (by decide) h.2, replies_heard h.1 (by decide) (by decide) h.2⟩

def cooling (d : Nat) : State := site.updSet 1 (fun r => { r with op := .cooling, coolDeadline := some d })

/-- A cool-down deadline of now, and one of the next second. -/
theorem witness_CoolDownDeadline : (cooling 1000).resetHeld = false
    ∧ (cooling 1000).set? 1 = some ((cooling 1000).setRec 1)
    ∧ ((cooling 1000).setRec 1).coolDeadline = some 1000 ∧ 1000 ≤ (cooling 1000).clock
    ∧ (cooling 1000).line.generalUsed < 12
    ∧ ((cooling 1001).setRec 1).coolDeadline = some 1001 ∧ (cooling 1001).clock < 1001 := by decide

def atMinute (taken count : Nat) (c : CloseState) : State :=
  { site with minutesTaken := taken, site := { site.site with minuteCount := count, closeState := c } }

/-- No tick waiting; a count that stays below the length; a match in OPEN and in HELD. -/
theorem witness_MinuteTick : site.resetHeld = false ∧ site.clock / 60 ≤ site.minutesTaken
    ∧ (atMinute 15 58 .opened).minutesTaken < (atMinute 15 58 .opened).clock / 60
    ∧ (atMinute 15 58 .opened).site.minuteCount + 1 < (atMinute 15 58 .opened).site.periodLength
    ∧ (atMinute 15 59 .opened).site.periodLength ≤ (atMinute 15 59 .opened).site.minuteCount + 1
    ∧ (atMinute 15 59 .opened).site.closeState = .opened ∧ (atMinute 15 59 .held).site.closeState ≠ .opened := by
  decide

/-- The load fractions at which the clauses meet, and a rising and a falling segment. -/
theorem witness_CurveValue : (1000 : Nat) ≤ 1000 ∧ (999 : Nat) < 1000 ∧ (225 : Int) ≤ 240 ∧ (212 : Int) ≤ 218 := by
  decide

def estimatedAt (t : Nat) : State := site.updSet 1 (fun r => { r with lastEstimate := t, energy := 1800 })

/-- A set estimated this second, and one estimated a second ago, with its tank. -/
theorem witness_BurnEstimate : (∀ t ∈ [1000, 999], (estimatedAt t).set? 1 = some ((estimatedAt t).setRec 1)
      ∧ 0 < ((estimatedAt t).setRec 1).rated ∧ ((estimatedAt t).setRec 1).tank = some 1)
    ∧ (estimatedAt 1000).clock - 1000 = 0 ∧ 0 < (estimatedAt 999).clock - 999
    ∧ (estimatedAt 999).tank? 1 = some ((estimatedAt 999).tankRec 1)
    ∧ (((estimatedAt 999).setRec 1).burn 1).rate ≤ 4294967295 := by decide

def tankAt (endurance : Nat) (mark : Bool) : State :=
  site.updTank 1 (fun r => { r with endurance, lowMark := mark })

/-- The endurances at which the clauses meet, for threshold 120, and a LOW_FUEL that waits. -/
theorem witness_LowMark : (∀ p ∈ [(119, false), (120, false), (149, true), (150, true)],
      (tankAt p.1 p.2).tank? 1 = some ((tankAt p.1 p.2).tankRec 1))
    ∧ ((tankAt 119 false).tankRec 1).endurance < ((tankAt 119 false).tankRec 1).lowThreshold
    ∧ ((tankAt 120 false).tankRec 1).lowThreshold ≤ ((tankAt 120 false).tankRec 1).endurance
    ∧ ((tankAt 149 true).tankRec 1).endurance < ((tankAt 149 true).tankRec 1).lowThreshold + 30
    ∧ ((tankAt 150 true).tankRec 1).lowThreshold + 30 ≤ ((tankAt 150 true).tankRec 1).endurance
    ∧ (∃ m ∈ (site.onPort (fun p => { p with notices := [lowFuelNotice] })).port.notices,
      m.kind = .lowFuel ∧ m.table = .tanks ∧ m.index = 1) := by decide

theorem witness_Reconciled : site.tank? 1 = some (site.tankRec 1) ∧ (∀ e ∈ site.buses, e.2.state ≠ .pending) := by
  decide

def filling : State := site.updTank 1 (fun r => { r with filling := true })

/-- A LEVEL from the gauge of tank 1, filling and not, and one from node 2, which is no gauge. -/
theorem witness_LevelReport :
    ({ cls := .alert, source := 6, kind := 53, payload := [255, 255, 255, 255] } : InFrame).message none
      = .level 4294967295
    ∧ Reports (heard .alert 6 53 [0, 0, 0, 9] none site) 1 6 (.level 9) site
    ∧ Reports (heard .alert 6 53 [0, 0, 0, 9] none filling) 1 6 (.level 9) filling
    ∧ Reports (heard .alert 2 53 [0, 0, 0, 9] none site) 1 2 (.level 9) site
    ∧ site.tanks.numWhere (fun r => decide (r.gauge = some 6)) = some 1 ∧ (site.tankRec 1).filling = false
    ∧ (filling.tankRec 1).filling = true ∧ (∀ e ∈ site.tanks, e.2.gauge ≠ some 2) :=
  ⟨by decide, reports_heard rfl (by decide) (by decide), reports_heard rfl (by decide) (by decide),
    reports_heard rfl (by decide) (by decide), by decide⟩

def dipReq (level ring : Nat) : Request := { reqOf .dipEntry .tanks 1 [(1, level)] with ring }
def guarded : State := site.updTank 1 (fun r => { r with code := .read })

/-- A level at the capacity and one above it, a tank being filled, and a code that grants no request. -/
theorem witness_DipEntry :
    Presents (ask (dipReq 100000 3) site) .dipEntry .port (asked (dipReq 100000 3)) (ask (dipReq 100000 3) site)
    ∧ Presents (ask (dipReq 100001 0) filling) .dipEntry .port (asked (dipReq 100001 0))
      (ask (dipReq 100001 0) filling)
    ∧ Presents (ask (dipReq 0 3) guarded) .dipEntry .port (asked (dipReq 0 3)) (ask (dipReq 0 3) guarded)
    ∧ (asked (dipReq 0 3)).names .tanks 1 ∧ (site.tankRec 1).capacity = 100000 ∧ (filling.tankRec 1).filling = true
    ∧ (site.tankRec 1).filling = false ∧ (asked (dipReq 100000 3)).allowed (site.tankRec 1).code .request
    ∧ ¬ (asked (dipReq 0 3)).allowed (guarded.tankRec 1).code .request :=
  ⟨⟨rfl, rfl⟩, ⟨rfl, rfl⟩, ⟨rfl, rfl⟩, ⟨rfl, rfl, rfl, by decide⟩, rfl, rfl, rfl, .inr rfl, by
    rintro (h | h) <;> exact absurd h (by decide)⟩

/-- Zone 1 has a bus, zone 2 has none. -/
theorem witness_RetireZone :
    (∀ n ∈ [1, 2], Presents (ask (reqOf .retire .zones n []) site) .retire .port (asked (reqOf .retire .zones n []))
      (ask (reqOf .retire .zones n []) site) ∧ site.zone? n = some (site.zoneRec n))
    ∧ 0 < (site.zoneRec 1).busCount ∧ (site.zoneRec 2).busCount = 0 :=
  ⟨fun n hn => ⟨presents_ask .retire .zones n [] 0 (.inl rfl) site, by
    simp only [List.mem_cons, List.not_mem_nil, or_false] at hn
    rcases hn with rfl | rfl <;> rfl⟩, by decide⟩

/-! ## Witnesses: metering -/

def startReq (ring : Nat) : Request := { reqOf .startPass .site 1 [] with ring }
def inPass : State := site.onPass (fun p => { p with state := .running, startTime := some 950 })

theorem witness_StartPass :
    (∀ ring ∈ [0, 1, 3], Presents (ask (startReq ring) site) .startPass .port (asked (startReq ring))
      (ask (startReq ring) site) ∧ (asked (startReq ring)).names .site 1)
    ∧ Presents (ask (startReq 0) inPass) .startPass .port (asked (startReq 0)) (ask (startReq 0) inPass)
    ∧ site.pass.state = .idle ∧ inPass.pass.state = .running := by
  refine ⟨fun ring hr => ⟨presents_ask .startPass .site 1 [] ring ?_ site, rfl, rfl, rfl, by decide⟩, ⟨rfl, rfl⟩,
    by decide⟩
  simpa using hr

def scanAt (d : Nat) (s : State) : State := s.onPass (fun p => { p with scanDeadline := some d })

/-- A deadline of now, in IDLE and in RUNNING, and one of the next second; tables with and without polls. -/
theorem witness_ScanDeadline : (scanAt 1000 site).resetHeld = false
    ∧ (scanAt 1000 site).pass.scanDeadline = some 1000 ∧ 1000 ≤ (scanAt 1000 site).clock
    ∧ (scanAt 1000 site).pass.state = .idle ∧ (scanAt 1000 inPass).pass.state = .running
    ∧ (scanAt 1000 inPass).pass.startTime = some 950 ∧ (scanAt 1001 site).clock < 1001
    ∧ site.tablesOk = true ∧ site.pollList ≠ [] ∧ site.line.generalUsed + 4 ≤ 12
    ∧ State.reset.tablesOk = true ∧ State.reset.pollList = [] := by decide

/-- A feeder whose boundary read is in flight, last read at `t`. -/
def readAt (t : Nat) (points : List SwitchPoint) (supply : Option Nat) : State :=
  (reading1.updFeeder 1 (fun r => { r with refTime := t, points })).updBus 1 (fun b => { b with supplying := supply })

set_option maxRecDepth 20000 in
/-- A reply in the same second, and 60 s after with a supplier, without one, and with a point. -/
theorem witness_ReadingApplied :
    (∀ s ∈ [readAt 1000 [] (some 1), readAt 940 [] (some 1), readAt 940 [] none, readAt 940 [⟨970, none⟩] (some 1)],
      Replies (heard .reply 5 52 [0, 0, 4, 6] (some (exchangeOf 41 5 (.readMeter 1))) s) 1 5 (.reading 1030)
        (exchangeOf 41 5 (.readMeter 1)) s
      ∧ ((s.feederRec 1).inFlight = some { frame := 1, boundary := true, servesPass := false })
      ∧ ((s.feederRec 1).refTime :: (s.feederRec 1).points.map SwitchPoint.time).Pairwise (· ≤ ·)
      ∧ (∀ p ∈ (s.feederRec 1).points, p.time ≤ s.clock)
      ∧ s.account? (s.feederRec 1).account = some (s.accountRec 2))
    ∧ (readAt 940 [] none).clock - 940 = 60 ∧ ((readAt 940 [] none).busRec 1).supplying = none
    ∧ ((readAt 940 [] (some 1)).busRec 1).supplying = some 1 ∧ ((readAt 940 [] (some 1)).set? 1).isSome = true
    ∧ 0 < min ((1030 + 16777216 - 1000) % 16777216) (100 * 60 * 1250 / 3600) := by
  refine ⟨fun s hs => ?_, by decide⟩
  have h : s.line = {} ∧ s.knownNode 5 = true
      ∧ ((s.feederRec 1).inFlight = some { frame := 1, boundary := true, servesPass := false })
      ∧ ((s.feederRec 1).refTime :: (s.feederRec 1).points.map SwitchPoint.time).Pairwise (· ≤ ·)
      ∧ (∀ p ∈ (s.feederRec 1).points, p.time ≤ s.clock)
      ∧ s.account? (s.feederRec 1).account = some (s.accountRec 2) := by
    simp only [List.mem_cons, List.not_mem_nil, or_false] at hs
    rcases hs with rfl | rfl | rfl | rfl <;> exact ⟨rfl, by decide⟩
  exact ⟨replies_heard h.1 (by decide) (by decide) h.2.1, h.2.2⟩

/-- A point at each end of an interval of 60 s, and lists of 0, 1 and 2 points. -/
theorem witness_EnergySplit : 0 < 60 ∧ (940 :: [(⟨940, some 1⟩ : SwitchPoint), ⟨1000, none⟩].map
      SwitchPoint.time).Pairwise (· ≤ ·) ∧ (∀ p ∈ [(⟨940, some 1⟩ : SwitchPoint), ⟨1000, none⟩], p.time ≤ 940 + 60)
    ∧ ([(⟨940, some 1⟩ : SwitchPoint), ⟨1000, none⟩] : List SwitchPoint).length ≤ 2 := by decide

/-- The greatest count of a register, and one above it. -/
theorem witness_ReseatFeeder :
    (∀ count ∈ [16777215, 16777216],
      Presents (ask (reqOf .reseatFeeder .feeders 1 [(1, count)]) site) .reseatFeeder .port
        (asked (reqOf .reseatFeeder .feeders 1 [(1, count)])) (ask (reqOf .reseatFeeder .feeders 1 [(1, count)]) site)
      ∧ (asked (reqOf .reseatFeeder .feeders 1 [(1, count)])).names .feeders 1)
    ∧ site.feeder? 1 = some (site.feederRec 1) :=
  ⟨fun count _ => ⟨presents_ask .reseatFeeder .feeders 1 [(1, count)] 0 (.inl rfl) site, rfl, rfl, rfl, by decide⟩,
    by decide⟩

/-! ## Witnesses: changeovers -/

def changeReq (set code ring : Nat) : Request := { reqOf .changeover .buses 1 [(1, set), (2, code)] with ring }

/-- A set that is STOPPED and cabled (all checks pass) and set 3, which is not cabled. -/
theorem witness_ChangeoverRequest :
    (∀ q ∈ [changeReq 2 1 0, changeReq 2 2 1, changeReq 3 1 0],
      Presents (ask q site) .changeover .port (asked q) (ask q site) ∧ (asked q).names .buses 1
      ∧ (asked q).mayReach .buses 1 .request site = true)
    ∧ site.bus? 1 = some (site.busRec 1) ∧ changeoverRefusal 1 2 .closed 0 site = none
    ∧ changeoverRefusal 1 3 .closed 0 site = some .notCabled ∧ (site.setRec 2).op ≠ .running
    ∧ (site.setRec 2).op = .stopped := by
  refine ⟨fun q hq => ?_, by decide⟩
  simp only [List.mem_cons, List.not_mem_nil, or_false] at hq
  rcases hq with rfl | rfl | rfl <;> exact ⟨⟨rfl, rfl⟩, ⟨rfl, rfl, rfl, by decide⟩, by decide⟩

/-- Bus 1 in a changeover from set 1 to set 2, asked for by node 8. -/
def changing (state : BusState) (op : OpState) : State :=
  (site.updBus 1 (fun b =>
    { b with state, incoming := some 2, kind := some .closed, requester := some (.node 8), warmUp := some 1000
             fuelWait := some 1000, phase := some 1000, awaited := some 1 })).updSet 2
    (fun r => { r with op, chBus := some 1, chRole := some .incoming, supplies := 1 })

def cancelReq (ring : Nat) : Request := { reqOf .cancelChangeover .buses 1 [] with ring }

/-- The same changeover on a bus without a supplying set, whose standby set is the incoming one. -/
def changingDead (standby : Option Nat) : State :=
  (changing .pending .starting).updBus 1 (fun b => { b with supplying := none, standby })

/-- The supplying set of bus 1 has failed in mid-changeover. -/
def changingFailed : State := (changing .pending .starting).updSet 1 (fun r => { r with op := .fault })

/-- PENDING without a supplying set, and with one that has failed. -/
theorem witness_CancelChangeover_noSupply :
    (∀ s ∈ [changingDead none, changingDead (some 2), changingFailed],
      Presents (ask (cancelReq 0) s) .cancelChangeover .port (asked (cancelReq 0)) (ask (cancelReq 0) s)
      ∧ (asked (cancelReq 0)).mayReach .buses 1 .request s = true
      ∧ (s.bus? 1).map BusRec.state = some .pending ∧ (s.busRec 1).queued = false
      ∧ s.port.notices.length < 32)
    ∧ (asked (cancelReq 0)).names .buses 1
    ∧ (∀ st ∈ [none, some 2], ((changingDead st).busRec 1).supplying = none
      ∧ ((changingDead st).busRec 1).standby = st)
    ∧ ((changingDead (some 2)).busRec 1).incoming = some 2
    ∧ (changingFailed.busRec 1).supplying = some 1 ∧ (changingFailed.setRec 1).op ≠ .running := by
  refine ⟨fun s hs => ?_, ⟨rfl, rfl, rfl, by decide⟩, by decide⟩
  simp only [List.mem_cons, List.not_mem_nil, or_false] at hs
  rcases hs with rfl | rfl | rfl <;> exact ⟨⟨rfl, rfl⟩, by decide⟩

/-- Ring 0 in PENDING, STEADY and OVERLAP, and ring 1 from another source than the requester. -/
theorem witness_CancelChangeover :
    (∀ st ∈ [BusState.pending, .steady, .overlap], ∀ ring ∈ [0, 1],
      let s := ask (cancelReq ring) (changing st .running)
      Presents s .cancelChangeover .port (asked (cancelReq ring)) s ∧ (asked (cancelReq ring)).names .buses 1
      ∧ (s.bus? 1).map BusRec.state = some st ∧ (s.busRec 1).requester ≠ some .port
      ∧ (asked (cancelReq ring)).mayReach .buses 1 .request s = true ∧ (s.busRec 1).supplying = some 1
      ∧ (s.setRec 1).op = .running) := by
  intro st hst ring hr
  simp only [List.mem_cons, List.not_mem_nil, or_false] at hst hr
  rcases hst with rfl | rfl | rfl <;> rcases hr with rfl | rfl <;>
    exact ⟨⟨rfl, rfl⟩, ⟨rfl, rfl, rfl, by decide⟩, by decide⟩

/-- Deadlines of this second in PENDING, SYNCING and CLOSING_IN, and of the next. -/
theorem witness_ChangeoverDeadlines :
    (∀ st ∈ [BusState.pending, .syncing, .closingIn],
      let s := changing st .running
      s.resetHeld = false ∧ s.bus? 1 = some (s.busRec 1) ∧ (s.busRec 1).state = st
      ∧ (s.busRec 1).warmUp = some 1000 ∧ (s.busRec 1).fuelWait = some 1000 ∧ (s.busRec 1).phase = some 1000
      ∧ 1000 ≤ s.clock ∧ (s.busRec 1).supplying = some 1 ∧ (s.setRec 1).op = .running
      ∧ s.port.notices.length < 32)
    ∧ { changing .pending .running with clock := 999 }.clock < 1000 := by decide

def needing (minutes : Nat) : State :=
  (changing .syncing .running).updBus 1 (fun b => { b with required := minutes })

/-- SYNC_OK from set 2 with the endurance that its tank has for the load of bus 1, with a minute more required,
for a bus that is not in SYNCING, and from a node of no set. -/
theorem witness_SyncOk :
    (∀ s ∈ [needing 1440, needing 1441, changing .pending .running],
      Reports (heard .alert 3 50 [] none s) 1 3 .syncOk s ∧ (s.setRec 2).chBus = some 1
      ∧ s.set? 2 = some (s.setRec 2) ∧ s.bus? 1 = some (s.busRec 1) ∧ (s.busRec 1).incoming = some 2)
    ∧ Reports (heard .alert 4 50 [] none site) 1 4 .syncOk site ∧ (∀ e ∈ site.sets, e.2.node ≠ 4)
    ∧ site.sets.numWhere (fun r => decide (r.node = 3)) = some 2
    ∧ (needing 1440).projectedEndurance 2 1 = 1440 ∧ ((changing .pending .running).busRec 1).state ≠ .syncing
    ∧ ((needing 1441).busRec 1).required = 1441 := by
  refine ⟨fun s hs => ?_, reports_heard rfl (by decide) (by decide), by decide⟩
  have h : s.line = {} ∧ s.knownNode 3 = true ∧ (s.setRec 2).chBus = some 1 ∧ s.set? 2 = some (s.setRec 2)
      ∧ s.bus? 1 = some (s.busRec 1) ∧ (s.busRec 1).incoming = some 2 := by
    simp only [List.mem_cons, List.not_mem_nil, or_false] at hs
    rcases hs with rfl | rfl | rfl <;> exact ⟨rfl, by decide⟩
  exact ⟨reports_heard h.1 (by decide) h.2.1, h.2.2⟩

def overlapping : State := (changing .overlap .running).updBus 1 (fun b => { b with step := some .releasing })
def panelExchange : Exchange := exchangeOf 37 4 (.panel 1)

set_option maxRecDepth 20000 in
/-- INPUTS that is no reply, and the reply awaited in CLOSING_IN (both closed) and OVERLAP (only set 2's). -/
theorem witness_PanelInputs :
    Reports (heard .alert 4 51 [1, 0] none site) 1 4 (.inputs [true, false]) site
    ∧ site.buses.numWhere (fun r => decide (r.panel = 4)) = some 1 ∧ (site.busRec 1).state ≠ .uncertain
    ∧ (∀ s ∈ [changing .closingIn .running, overlapping],
      s.tablesOk = true
      ∧ Replies (heard .reply 4 51 [1, 1] (some panelExchange) s) 1 4 (.inputs [true, true]) panelExchange s
      ∧ Replies (heard .reply 4 51 [0, 1] (some panelExchange) s) 1 4 (.inputs [false, true]) panelExchange s
      ∧ s.bus? 1 = some (s.busRec 1) ∧ (s.busRec 1).awaited = some 1 ∧ (s.busRec 1).incoming = some 2
      ∧ (s.busRec 1).supplying = some 1 ∧ (s.busRec 1).showsSet [false, true] (some 2) = true
      ∧ (s.busRec 1).showsSet [false, true] (some 1) = false ∧ (s.setRec 2).op = .running)
    ∧ (overlapping.busRec 1).state = .overlap ∧ (overlapping.busRec 1).step = some .releasing := by
  refine ⟨reports_heard rfl (by decide) (by decide), by decide, by decide, fun s hs => ?_, by decide, by decide⟩
  have h : s.line = {} ∧ s.knownNode 4 = true ∧ s.tablesOk = true ∧ s.bus? 1 = some (s.busRec 1)
      ∧ (s.busRec 1).awaited = some 1 ∧ (s.busRec 1).incoming = some 2
      ∧ (s.busRec 1).supplying = some 1 ∧ (s.busRec 1).showsSet [false, true] (some 2) = true
      ∧ (s.busRec 1).showsSet [false, true] (some 1) = false ∧ (s.setRec 2).op = .running := by
    simp only [List.mem_cons, List.not_mem_nil, or_false] at hs
    rcases hs with rfl | rfl <;> exact ⟨rfl, by decide⟩
  exact ⟨h.2.2.1, replies_heard h.1 (by decide) (by decide) h.2.1, replies_heard h.1 (by decide) (by decide) h.2.1,
    h.2.2.2⟩

def confirmReq (set ring : Nat) : Request := { reqOf .confirmSupply .buses 1 [(1, set)] with ring }

/-- Ring 1; a bus not in doubt; a set not cabled; a cabled set that is neither; and the supplying set. -/
theorem witness_ConfirmSupply :
    (∀ p ∈ [(1, 1), (1, 0), (3, 0), (4, 0)],
      let s := ask (confirmReq p.1 p.2) (changing .uncertain .running)
      Presents s .confirmSupply .port (asked (confirmReq p.1 p.2)) s
      ∧ (asked (confirmReq p.1 p.2)).names .buses 1 ∧ (s.busRec 1).state = .uncertain
      ∧ (s.busRec 1).supplying = some 1 ∧ (s.busRec 1).incoming = some 2 ∧ (s.setRec 1).op = .running
      ∧ some 1 ∈ (s.busRec 1).inputs ∧ some 3 ∉ (s.busRec 1).inputs)
    ∧ (site.busRec 1).state ≠ .uncertain
    ∧ some 4 ∈ ((site.updBus 1 (fun b => { b with inputs := [some 1, some 2, some 4] })).busRec 1).inputs := by
  refine ⟨fun p hp => ?_, by decide⟩
  simp only [List.mem_cons, List.not_mem_nil, or_false] at hp
  rcases hp with rfl | rfl | rfl | rfl <;>
    exact ⟨⟨rfl, rfl⟩, ⟨rfl, rfl, rfl, by decide⟩, by decide⟩

/-! ## Witnesses: deliveries -/

def openReq (bowser docket : Nat) (target : Option Nat) : Request :=
  reqOf .openDelivery .tanks 1 ([(1, bowser), (2, docket)] ++ target.toList.map (fun v => (3, v)))
def nominateReq (target : Option Nat) : Request :=
  reqOf .nominate .deliveries 1 ([(1, 1)] ++ target.toList.map (fun v => (2, v)))

/-- Context 1 in a state, with the bowser of node 7 and one nomination, of tank 2, given a status. -/
def visit (state : CtxState) (status : NomStatus) (start : Option Nat) : State :=
  site.updCtx 1 (fun _ =>
    { state, bowser := some 7, opener := some .port, docket := some 77, openTime := some 900
      noms := [{ tank := 1, target := some 10000, status, startMeter := start }]
      current := if state = .gathering then none else some 1
      gathering := if state = .gathering then some 1000 else none
      fill := if state = .dispensing then some 1000 else none
      settle := if state = .suspending then some 1000 else none
      byRequest := decide (state = .suspending ∨ state = .suspended) })

/-- Targets 1 and the capacity, which pass; one above it; and a NOMINATE in a context that gathers elsewhere. -/
theorem witness_OpenDelivery :
    (∀ v ∈ [none, some 1, some 100000, some 100001],
      Presents (ask (openReq 7 4294967295 v) site) .openDelivery .port (asked (openReq 7 4294967295 v))
        (ask (openReq 7 4294967295 v) site)
      ∧ (asked (openReq 7 4294967295 v)).names .tanks 1
      ∧ Presents (ask (nominateReq v) site) .nominate .port (asked (nominateReq v)) (ask (nominateReq v) site)
      ∧ (asked (nominateReq v)).names .deliveries 1)
    ∧ site.tank? 1 = some (site.tankRec 1) ∧ site.handheld 7 = true ∧ site.nominated 1 = false
    ∧ site.bowserBusy 7 = false ∧ site.ctx1.state = .idle ∧ (visit .gathering .waiting none).ctx1.state ≠ .idle
    ∧ (visit .gathering .waiting none).nominated 1 = true
    ∧ (visit .gathering .waiting none).ctx1.state = .gathering := by
  refine ⟨fun v hv => ?_, by decide⟩
  simp only [List.mem_cons, List.not_mem_nil, or_false] at hv
  rcases hv with rfl | rfl | rfl | rfl <;>
    exact ⟨⟨rfl, rfl⟩, ⟨rfl, rfl, rfl, by decide⟩, ⟨rfl, rfl⟩, ⟨rfl, rfl, rfl, by decide⟩⟩

def ctxReq (k : ReqKind) : Request := reqOf k .deliveries 1 []

/-- Every request on a context, in every state of the context. -/
theorem presents_ctxReq (k : ReqKind) (st : CtxState) (m : NomStatus) (start : Option Nat) :
    let s := ask (ctxReq k) (visit st m start)
    Presents s k .port (asked (ctxReq k)) s ∧ (asked (ctxReq k)).names .deliveries 1
    ∧ (asked (ctxReq k)).mayReach .deliveries 1 .request s = true ∧ (s.ctx 1).state = st := by
  refine ⟨presents_ask k .deliveries 1 [] 0 (.inl rfl) _, ⟨rfl, rfl, rfl, by decide⟩, rfl, rfl⟩

theorem witness_SuspendResume :
    let s := visit .suspended .filling (some 5)
    (s.ctx 1).byChangeover = false ∧ ((s.ctx 1).currentNom.map Nomination.status) = some .filling
    ∧ (s.ctx 1).haltSent = false ∧ ((visit .stalled .waiting none).ctx 1).started = false
    ∧ (((visit .stalled .waiting none).updCtx 1 (fun c => { c with byChangeover := true })).ctx 1).byChangeover
      = true := by decide

theorem witness_EndDelivery :
    let c := (visit .stalled .waiting none).ctx 1
    c.state = .stalled ∧ c.current = some 1 ∧ c.currentNom.isSome = true
    ∧ c.currentNom.map Nomination.startMeter = some none ∧ c.noms.length = 1
    ∧ c.state.active = true ∧ c.started = false ∧ c.running = false
    ∧ CtxState.active .idle = false ∧ CtxState.active .done = false := by
  decide

/-- A nomination that has started, OVERRUN in STALLED and FILLING in DISPENSING, with its tank. -/
theorem witness_EndDelivery_started :
    (∀ s ∈ [visit .stalled .overrun (some 5), visit .dispensing .filling (some 5)],
      let c := s.ctx 1
      c.state.active = true ∧ c.running = true ∧ c.current = some 1
      ∧ c.currentNom.bind Nomination.startMeter = some 5 ∧ c.currentNom.map Nomination.tank = some 1
      ∧ s.tank? 1 = some (s.tankRec 1) ∧ s.port.notices.length < 31)
    ∧ ((visit .stalled .overrun (some 5)).ctx 1).state = .stalled := by decide

set_option maxRecDepth 20000 in
/-- Reports of node 7 to a context that deals with its bowser, from node 8 to none, and a valve's reply. -/
theorem witness_BowserReports :
    let s := visit .dispensing .filling (some 5)
    let v := visit .suspending .filling (some 5)
    let e := exchangeOf 44 7 (.valveShut 1 0)
    Reports (heard .alert 7 54 [0, 0, 0, 9] none s) 1 7 (.bowserMeter 9) s
    ∧ Reports (heard .alert 7 55 [0, 0, 0, 9] none s) 1 7 (.hoseDone 9) s
    ∧ Reports (heard .alert 8 54 [0, 0, 0, 9] none s) 1 8 (.bowserMeter 9) s
    ∧ s.bowserCtx 7 = some 1 ∧ s.bowserCtx 8 = none ∧ (s.ctx 1).running = true
    ∧ ((visit .dispensing .waiting none).ctx 1).running = false ∧ (s.ctx 1).current = some 1
    ∧ (s.ctx 1).currentNom.bind Nomination.startMeter = some 5 ∧ s.tank? 1 = some (s.tankRec 1)
    ∧ Replies (heard .reply 7 44 [0, 0, 0, 1, 0, 0, 0, 9] (some e) v) 1 7 (.valveShut true (some 9)) e v
    ∧ Replies (heard .reply 7 44 [0, 0, 0, 0] (some e) v) 1 7 (.valveShut false none) e v
    ∧ (v.ctx 1).serial = 0 ∧ (v.ctx 1).state = .suspending ∧ (v.ctx 1).byRequest = true :=
  ⟨reports_heard rfl (by decide) (by decide), reports_heard rfl (by decide) (by decide),
    reports_heard rfl (by decide) (by decide), by decide, by decide, by decide, by decide, by decide, by decide,
    by decide, replies_heard rfl (by decide) (by decide) (by decide),
    replies_heard rfl (by decide) (by decide) (by decide), by decide⟩

/-- Deadlines of this second in GATHERING, DISPENSING and SUSPENDING, and of the next; RESET asserted. -/
theorem witness_DeliveryDeadlines :
    let g := visit .gathering .waiting none
    let d := visit .dispensing .filling (some 5)
    let w := visit .suspending .filling (some 5)
    g.resetHeld = false ∧ (g.ctx 1).state = .gathering ∧ (g.ctx 1).gathering = some 1000 ∧ 1000 ≤ g.clock
    ∧ (g.ctx 1).noms.head?.map Nomination.status = some .waiting ∧ g.tankTouched 1 = false
    ∧ (g.ctx 1).byRequest = false ∧ (g.ctx 1).noms.head?.map Nomination.target = some (some 10000)
    ∧ (d.ctx 1).state = .dispensing ∧ (d.ctx 1).fill = some 1000
    ∧ (w.ctx 1).state = .suspending ∧ (w.ctx 1).settle = some 1000 ∧ (w.ctx 1).byRequest = true
    ∧ { g with clock := 999 }.clock < 1000 ∧ (lineReset g).resetHeld = true := by decide

/-! ## Witnesses: billing -/

def closeReq (ring : Nat) : Request := { reqOf .closePeriod .site 1 [] with ring }
def due : State := site.onSite (fun p => { p with closeState := .due })

theorem witness_ClosePeriod :
    (∀ s ∈ [site, inPass, due], ∀ ring ∈ [0, 1],
      Presents (ask (closeReq ring) s) .closePeriod .port (asked (closeReq ring)) (ask (closeReq ring) s)
      ∧ (asked (closeReq ring)).names .site 1)
    ∧ site.site.closeState = .opened ∧ due.site.closeState ≠ .opened ∧ site.pass.state = .idle
    ∧ inPass.site.closeState = .opened ∧ inPass.pass.state = .running := by
  refine ⟨fun s _ ring hr => ⟨presents_ask .closePeriod .site 1 [] ring ?_ s, rfl, rfl, rfl, by decide⟩, by decide⟩
  simp only [List.mem_cons, List.not_mem_nil, or_false] at hr
  rcases hr with rfl | rfl <;> simp

def collectReq (n ring : Nat) : Request := { reqOf .collectStatement .accounts n [] with ring }
def paid : Statement :=
  { period := 1, startTime := 0, endTime := 900, energy := 5000, fuel := 556, charge := 331, collected := false
    overwritten := false }
def billed (st : AccountStatus) : State :=
  site.updAccount 2 (fun a => { a with status := st, statement := some paid })

/-- An OPEN and a CLOSED_OUT account with a statement, one without, and a code that grants no request. -/
theorem witness_CollectStatement :
    (∀ st ∈ [AccountStatus.opened, .closedOut],
      let s := ask (collectReq 2 3) (billed st)
      Presents s .collectStatement .port (asked (collectReq 2 3)) s ∧ (asked (collectReq 2 3)).names .accounts 2
      ∧ s.account? 2 = some (s.accountRec 2) ∧ (s.accountRec 2).statement = some paid
      ∧ (s.accountRec 2).status = st ∧ (asked (collectReq 2 3)).allowed (s.accountRec 2).code .request)
    ∧ (site.accountRec 1).statement = none ∧ site.account? 1 = some (site.accountRec 1)
    ∧ (site.accountRec 1).code.grants .request = false := by
  refine ⟨fun st hst => ?_, by decide⟩
  simp only [List.mem_cons, List.not_mem_nil, or_false] at hst
  rcases hst with rfl | rfl <;>
    exact ⟨⟨rfl, rfl⟩, ⟨rfl, rfl, rfl, by decide⟩, rfl, rfl, rfl, .inr rfl⟩

/-- A set with nothing drawn, one with Wh drawn, and an account billed and one not. -/
theorem witness_FuelApportioned :
    ({ periodBurnt := 60 } : SetRec).drawnWh = 0
    ∧ 0 < ({ periodBurnt := 1000, draws := [(4, 5000), (7, 3000)], pooled := 1000 } : SetRec).drawnWh
    ∧ site.account? 1 = some (site.accountRec 1) ∧ site.account? 2 = some (site.accountRec 2)
    ∧ (site.accountRec 2).drawn = false := by decide

end Sys2Proof.Tests
end

/-! ## SUPPORT. Reading set records, and an ORDER that finds room -/

namespace Sys2Proof.Machine

/-- A listed set record reads as it is listed. -/
theorem State.setRec_of_find {s : State} {n : Nat} {r : SetRec} (h : s.set? n = some r) : s.setRec n = r := by
  rw [State.setRec, h]; rfl

/-- A listed set record reads as changed. -/
theorem State.setRec_updSet_self {s : State} {n : Nat} {r : SetRec} (h : s.set? n = some r)
    (f : SetRec → SetRec) : (s.updSet n f).setRec n = f r :=
  State.setRec_of_find (by rw [State.set?_updSet, if_pos rfl, h]; rfl)

/-- The other set records read as before. -/
theorem State.setRec_updSet_ne {n m : Nat} (h : m ≠ n) (f : SetRec → SetRec) (s : State) :
    (s.updSet n f).setRec m = s.setRec m := by
  rw [State.setRec, State.set?_updSet, if_neg h]; rfl

/-- Equal set tables read alike. -/
theorem State.setRec_congr {s t : State} (h : t.sets = s.sets) (n : Nat) : t.setRec n = s.setRec n := by
  rw [State.setRec, State.set?, h]; rfl

/-- No listed record meets the test. -/
theorem Tbl.numWhere_eq_none {α : Type} {t : Tbl α} {p : α → Bool} (h : ∀ e ∈ t, p e.2 = false) :
    t.numWhere p = none := by
  simp only [Tbl.numWhere, Option.map_eq_none_iff, List.find?_eq_none]
  exact fun e he => by simp [h e he]

/-- An ORDER takes a general entry while one is free (R180). -/
theorem Line.offerOrder_of_room {l : Line} (h : l.generalUsed < 12) (f : OutFrame) :
    l.offerOrder f = { l with queue := queueBack l.queue { f with kept := false } } := if_pos h

/-- An ORDER sent while a general entry is free stands last of its class (R180). -/
theorem sendOrder_of_room {s : State} (h : s.line.generalUsed < 12) (dest kind : Nat) (payload : List Byte)
    (p : Purpose) : sendOrder dest kind payload p s = { s with
      nextId := s.nextId + 1
      line := { s.line with queue := queueBack s.line.queue (
        { id := s.nextId, cls := .order, dest, kind, payload, purpose := p } : OutFrame) } } := by
  rw [sendOrder_eq, Line.offerOrder_of_room h]

end Sys2Proof.Machine

/-! ## SUPPORT. What changeovers, deliveries and recomputed tanks leave as it was

A change of op state and a line reset hand on to every block (R12, R112). None of them writes a set's op state, its
silent mark and count, or the deadline of a set that is not COOLING, nor the clock, zones, accounts and nodes: one
lemma an operation, in the order of the model. -/

namespace Sys2Proof.Machine

/-- What of a set record only the Roster Unit's own events write (R11 to R18): changeovers, deliveries and
recomputed tanks read it at most. -/
structure SetRec.Standing where
  status : SlotStatus
  op : OpState
  silent : Bool
  silentCount : Nat
  coolDeadline : Option Nat

/-- The cool-down deadline of a COOLING set is left out, since the START of a changeover drops it (R14). -/
def SetRec.standing (r : SetRec) : SetRec.Standing where
  status := r.status
  op := r.op
  silent := r.silent
  silentCount := r.silentCount
  coolDeadline := if r.op = .cooling then none else r.coolDeadline

/-- What of the state no changeover, delivery, boundary read or recomputed tank writes: the clocks, the standing of
every set, and the tables and fields of the other units. -/
structure Standing where
  clock : Nat
  minutesTaken : Nat
  resetHeld : Bool
  sets : Nat → Option SetRec.Standing
  tagIndex : Tbl (List Nat)
  zones : Tbl ZoneRec
  accounts : Tbl AccountRec
  nodes : Tbl NodeRec
  site : Site
  pending : List Instr

/-- The standing of a state. -/
def State.standing (s : State) : Standing where
  clock := s.clock
  minutesTaken := s.minutesTaken
  resetHeld := s.resetHeld
  sets := fun n => (s.set? n).map SetRec.standing
  tagIndex := s.tagIndex
  zones := s.zones
  accounts := s.accounts
  nodes := s.nodes
  site := s.site
  pending := s.pending

/-- Changing a set record keeps the standing when it keeps that of the record listed. -/
theorem State.updSet_standing_of_find {n : Nat} {f : SetRec → SetRec} {s : State}
    (h : ∀ r, s.set? n = some r → (f r).standing = r.standing) :
    (s.updSet n f).standing = s.standing := by
  have hs : (fun m => ((s.updSet n f).set? m).map SetRec.standing)
      = fun m => (s.set? m).map SetRec.standing := by
    funext m
    rw [State.set?_updSet]
    split
    next hm =>
      subst hm
      cases hr : s.set? m with
      | none => rfl
      | some r => simp [h r hr]
    next => rfl
  unfold State.standing
  rw [hs]
  rfl

/-- Changing a set record keeps the standing when the change keeps that of every record. -/
theorem State.updSet_standing {n : Nat} {f : SetRec → SetRec} {s : State}
    (h : ∀ r, (f r).standing = r.standing) : (s.updSet n f).standing = s.standing :=
  State.updSet_standing_of_find (fun r _ => h r)

section
variable (s : State) (n bus set : Nat)

/-! ### Updates, notices and frames -/

@[simp] theorem clearStartFrame_standing :
    (s.updSet n (fun r => { r with startFrame := none })).standing = s.standing :=
  State.updSet_standing (fun _ => rfl)
@[simp] theorem markStarted_standing (b : Bool) :
    (s.updSet n (fun r => { r with startedByCh := b })).standing = s.standing :=
  State.updSet_standing (fun _ => rfl)
@[simp] theorem State.updBus_standing (f : BusRec → BusRec) : (s.updBus n f).standing = s.standing := rfl
@[simp] theorem State.updTank_standing (f : TankRec → TankRec) : (s.updTank n f).standing = s.standing := rfl
@[simp] theorem State.updFeeder_standing (f : FeederRec → FeederRec) :
    (s.updFeeder n f).standing = s.standing := rfl
@[simp] theorem State.onFeeders_standing (f : Tbl FeederRec → Tbl FeederRec) :
    (s.onFeeders f).standing = s.standing := rfl
@[simp] theorem State.onBuses_standing (f : Tbl BusRec → Tbl BusRec) : (s.onBuses f).standing = s.standing := rfl
@[simp] theorem State.onResetWork_standing (f : ResetWork → ResetWork) :
    (s.onResetWork f).standing = s.standing := rfl
@[simp] theorem raise_standing (k : NoticeKind) (t : TableId) (v : Option Nat) :
    (raise k t n v s).standing = s.standing := rfl
@[simp] theorem State.updCtx_standing (f : Ctx → Ctx) : (s.updCtx n f).standing = s.standing := by
  unfold State.updCtx; split <;> rfl

@[simp] theorem standing_ite (c : Prop) [Decidable c] (t : State) :
    (if c then s else t).standing = if c then s.standing else t.standing := apply_ite State.standing c s t

@[simp] theorem forEach_standing {α : Type} {f : α → State → State}
    (h : ∀ x t, (f x t).standing = t.standing) (xs : List α) :
    (forEach xs f s).standing = s.standing := forEach_same State.standing f h xs s

@[simp] theorem sendOrder_standing (d k : Nat) (b : List Byte) (p : Purpose) :
    (sendOrder d k b p s).standing = s.standing := rfl
@[simp] theorem offerOrder_standing (d k : Nat) (b : List Byte) (p : Purpose) :
    (offerOrder d k b p s).1.standing = s.standing := rfl
@[simp] theorem offerQuery_standing (d k : Nat) (p : Purpose) (front : Bool) :
    (offerQuery d k p front s).1.standing = s.standing := by
  unfold offerQuery; split <;> rfl

/-! ### Tanks recomputed -/

@[simp] theorem evalLowMark_standing : (evalLowMark n s).standing = s.standing := by
  unfold evalLowMark; split
  · rfl
  · split_ifs <;> rfl
@[simp] theorem recomputeTank_standing : (recomputeTank n s).standing = s.standing := by
  simp [recomputeTank]
@[simp] theorem recomputeSupply_standing (t : Option Nat) : (recomputeSupply t s).standing = s.standing := by
  cases t <;> simp [recomputeSupply]

/-! ### Panels, PENDING changeovers and the start of switching -/

@[simp] theorem orderBowser_standing (k : Nat) (p : Purpose) : (orderBowser n k p s).standing = s.standing := rfl
@[simp] theorem suspendFlow_standing : (suspendFlow n s).standing = s.standing := by simp [suspendFlow]
@[simp] theorem placeChangeover_standing : (placeChangeover n s).standing = s.standing := by
  unfold placeChangeover; dsimp only; split <;> simp
@[simp] theorem switchingBegins_standing (sets : List Nat) : (switchingBegins sets s).standing = s.standing :=
  forEach_standing s (fun n t => by split <;> simp) _
@[simp] theorem orderPanel_standing (k : Nat) : (orderPanel bus k set s).standing = s.standing := rfl
@[simp] theorem openUnawaited_standing : (openUnawaited bus set s).standing = s.standing := rfl
@[simp] theorem orderSync_standing : (orderSync bus set s).standing = s.standing := rfl
@[simp] theorem enterPhase_standing (st : BusState) (k : Nat) : (enterPhase bus st k s).standing = s.standing := rfl
@[simp] theorem enterDead_standing : (enterDead bus set s).standing = s.standing := by simp [enterDead]
@[simp] theorem leavePending_standing : (leavePending bus s).standing = s.standing := by
  unfold leavePending; dsimp only
  rw [switchingBegins_standing]
  split <;> simp
@[simp] theorem evaluatePending_standing : (evaluatePending bus s).standing = s.standing := by
  unfold evaluatePending; split <;> simp
@[simp] theorem evaluateForTank_standing : (evaluateForTank n s).standing = s.standing :=
  forEach_standing s (fun b t => by split <;> simp) _
@[simp] theorem askLevel_standing : (askLevel n s).standing = s.standing := by
  unfold askLevel; split <;> simp
@[simp] theorem creditFuel_standing (ml : Nat) : (creditFuel n ml s).standing = s.standing := by
  simp [creditFuel]

/-! ### Deliveries and the end of switching -/

@[simp] theorem enterDone_standing (o : DocketOutcome) : (enterDone n o s).standing = s.standing := by
  simp [enterDone]
@[simp] theorem orderFill_standing (ml : Nat) : (orderFill n ml s).standing = s.standing := rfl
@[simp] theorem actOnTakenUp_standing (ml : Nat) : (actOnTakenUp n ml s).standing = s.standing := by
  unfold actOnTakenUp; dsimp only; split_ifs <;> simp
@[simp] theorem makeCurrent_standing (k : Nat) (nom : Nomination) :
    (makeCurrent n k nom s).standing = s.standing := by simp [makeCurrent]
@[simp] theorem takeUpFrom_standing (ks : List Nat) : (takeUpFrom n ks s).standing = s.standing := by
  induction ks generalizing s with
  | nil => simp [takeUpFrom]
  | cons k ks ih =>
    unfold takeUpFrom
    split
    · exact ih s
    · split_ifs
      · exact ih s
      · rw [ih, State.updCtx_standing]
      · simp
@[simp] theorem takeUpNext_standing : (takeUpNext n s).standing = s.standing := by simp [takeUpNext]
@[simp] theorem creditCurrent_standing (st : NomStatus) : (creditCurrent n st s).standing = s.standing := by
  simp [creditCurrent]
@[simp] theorem resumeWaiting_standing : (resumeWaiting n s).standing = s.standing := by
  simp [resumeWaiting]
@[simp] theorem goOnToNext_standing : (goOnToNext n s).standing = s.standing := by
  unfold goOnToNext; dsimp only; split <;> simp
@[simp] theorem completeCurrent_standing : (completeCurrent n s).standing = s.standing := by
  simp [completeCurrent]
@[simp] theorem resume_standing : (resume n s).standing = s.standing := by
  unfold resume; dsimp only; split
  · simp
  · split <;> simp
@[simp] theorem resumeIfFree_standing : (resumeIfFree n s).standing = s.standing := by
  unfold resumeIfFree; dsimp only; split <;> simp
@[simp] theorem reviewChangeover_standing : (reviewChangeover n s).standing = s.standing := by
  unfold reviewChangeover; dsimp only; split <;> simp
@[simp] theorem switchingEnds_standing : (switchingEnds s).standing = s.standing :=
  forEach_standing s (fun n t => reviewChangeover_standing t n) _

/-! ### Boundary reads -/

@[simp] theorem offerBoundary_standing : (offerBoundary n s).standing = s.standing := by
  unfold offerBoundary
  rcases offerQuery_cases (s.feederRec n).meter Kind.readMeter (.readMeter n) true s with
    ⟨-, q, h⟩ | ⟨-, h⟩ <;> rw [h] <;> rfl
@[simp] theorem askBoundary_standing : (askBoundary n s).standing = s.standing := by
  unfold askBoundary; dsimp only; split <;> simp
@[simp] theorem markSupplyChange_standing (x : Option Nat) : (markSupplyChange bus x s).standing = s.standing := by
  simp [markSupplyChange]

/-! ### Orders to sets, the arbiter and the end of a part -/

@[simp] theorem sendStart_standing : (sendStart set bus s).standing = s.standing := by
  unfold sendStart; dsimp only
  rw [State.updBus_standing]
  refine (State.updSet_standing_of_find fun r hr => ?_).trans (offerOrder_standing s _ _ _ _)
  have hop : (s.setRec set).op = r.op := congrArg SetRec.op (State.setRec_of_find (s := s) hr)
  by_cases hc : r.op = .cooling <;> simp [SetRec.standing, hop, hc]
@[simp] theorem sendCool_standing : (sendCool set s).standing = s.standing := rfl
@[simp] theorem sendStop_standing : (sendStop set s).standing = s.standing := rfl
@[simp] theorem coolCheck_standing : (coolCheck set s).standing = s.standing := by
  unfold coolCheck; dsimp only; split <;> simp
@[simp] theorem incSupplies_standing : (incSupplies set s).standing = s.standing :=
  State.updSet_standing (fun _ => rfl)
@[simp] theorem decSupplies_standing : (decSupplies set s).standing = s.standing := by
  rw [decSupplies, coolCheck_standing]; exact State.updSet_standing (fun _ => rfl)
@[simp] theorem orderByOp_standing : (orderByOp bus set s).standing = s.standing := by
  unfold orderByOp; dsimp only; split <;> simp
@[simp] theorem startIncoming_standing : (startIncoming bus set s).standing = s.standing := by
  unfold startIncoming; dsimp only; split <;> simp
@[simp] theorem takePart_standing (r : ChRole) : (takePart bus set r s).standing = s.standing :=
  State.updSet_standing (fun _ => rfl)
@[simp] theorem clearPart_standing : (clearPart set s).standing = s.standing :=
  State.updSet_standing (fun _ => rfl)
@[simp] theorem beginEmergency_standing : (beginEmergency bus set s).standing = s.standing := by
  simp [beginEmergency]
@[simp] theorem queueBus_standing : (queueBus bus s).standing = s.standing := by
  simp [queueBus]
@[simp] theorem standbyUnavailable_standing : (standbyUnavailable set bus s).standing = s.standing := by
  simp [standbyUnavailable]
@[simp] theorem giveStandby_standing (bs : List Nat) : (giveStandby set bs s).standing = s.standing := by
  induction bs generalizing s with
  | nil => rfl
  | cons b bs ih =>
    unfold giveStandby
    split
    · simp
    · rw [ih, standbyUnavailable_standing]
@[simp] theorem arbiterActs_standing (bs : List Nat) : (arbiterActs set bs s).standing = s.standing := by
  unfold arbiterActs; dsimp only; split_ifs <;> simp
@[simp] theorem arbitrate_standing (bs : List Nat) : (arbitrate bs s).standing = s.standing :=
  forEach_standing s (fun n t => arbiterActs_standing t n _) _
@[simp] theorem reevaluate_standing : (reevaluate set s).standing = s.standing := by
  unfold reevaluate; dsimp only; split <;> simp
@[simp] theorem orderByMark_standing : (orderByMark set s).standing = s.standing := by
  unfold orderByMark; dsimp only; split_ifs <;> simp
@[simp] theorem partEnd_standing : (partEnd set s).standing = s.standing := by
  unfold partEnd; dsimp only; split_ifs <;> simp

/-! ### Bus events -/

@[simp] theorem endSwitchingIf_standing (b : Bool) : (endSwitchingIf b s).standing = s.standing := by
  unfold endSwitchingIf; split <;> simp
@[simp] theorem Tail.take_standing (t : Tail) : (t.take s).standing = s.standing := by
  cases t <;> simp [Tail.take]
@[simp] theorem loseSupply_standing : (loseSupply bus s).standing = s.standing := by
  unfold loseSupply; split <;> simp
@[simp] theorem finish_standing (f : Follow) : (finish f s).standing = s.standing := by
  unfold finish; dsimp only; split <;> simp
@[simp] theorem enterSteady_standing : (enterSteady bus n s).1.standing = s.standing := by
  unfold enterSteady; split <;> simp
@[simp] theorem abortCounts_standing (r : AbortReason) : (abortCounts bus n r s).standing = s.standing := by
  unfold abortCounts; dsimp only; split <;> simp
@[simp] theorem abort_standing (r : AbortReason) (loss : Bool) : (abort bus r loss s).1.standing = s.standing := by
  unfold abort; dsimp only; split
  · simp
  · split <;> simp
@[simp] theorem abortBack_standing (r : AbortReason) : (abortBack bus r s).1.standing = s.standing :=
  abort_standing s bus r false
@[simp] theorem convert_standing : (convert bus s).1.standing = s.standing := by
  unfold convert; dsimp only; split <;> simp
@[simp] theorem supplierLeaves_standing : (supplierLeaves bus s).1.standing = s.standing := by
  unfold supplierLeaves; split <;> simp
@[simp] theorem backOut_standing : (backOut bus n s).standing = s.standing := rfl
@[simp] theorem incomingChanges_standing : (incomingChanges bus n s).1.standing = s.standing := by
  unfold incomingChanges; dsimp only; split
  · split <;> simp
  · split <;> simp
  · split <;> simp
  · split <;> simp
  · split <;> simp
  all_goals rfl
@[simp] theorem busSeesChange_standing (was : OpState) : (busSeesChange set was bus s).1.standing = s.standing := by
  unfold busSeesChange; dsimp only; split_ifs <;> simp
@[simp] theorem seeBuses_standing (was : OpState) (bs : List Nat) (w : Follow) :
    (seeBuses set was bs w s).standing = s.standing := by
  induction bs generalizing s w with
  | nil => exact finish_standing s w
  | cons b bs ih =>
    unfold seeBuses; dsimp only
    split_ifs <;> rw [ih] <;> simp
@[simp] theorem transferSees_standing (was : OpState) : (transferSees set was s).standing = s.standing :=
  seeBuses_standing s set was _ _

end

/-! ## What two states of the same standing share -/

section
variable {s t : State} (h : t.standing = s.standing)
include h

theorem set?_standing (n : Nat) : (t.set? n).map SetRec.standing = (s.set? n).map SetRec.standing :=
  congrFun (congrArg Standing.sets h) n
theorem setRec_standing (n : Nat) : (t.setRec n).standing = (s.setRec n).standing := by
  rw [State.setRec, State.setRec, ← Option.getD_map SetRec.standing, set?_standing h, Option.getD_map]

theorem op_of_standing (n : Nat) : (t.setRec n).op = (s.setRec n).op :=
  congrArg SetRec.Standing.op (setRec_standing h n)
theorem silent_of_standing (n : Nat) : (t.setRec n).silent = (s.setRec n).silent :=
  congrArg SetRec.Standing.silent (setRec_standing h n)
theorem silentCount_of_standing (n : Nat) : (t.setRec n).silentCount = (s.setRec n).silentCount :=
  congrArg SetRec.Standing.silentCount (setRec_standing h n)
theorem coolDeadline_of_standing {n : Nat} (hop : (s.setRec n).op ≠ .cooling) :
    (t.setRec n).coolDeadline = (s.setRec n).coolDeadline := by
  have hd := congrArg SetRec.Standing.coolDeadline (setRec_standing h n)
  have ht : (t.setRec n).op ≠ .cooling := op_of_standing h n ▸ hop
  simpa [SetRec.standing, hop, ht] using hd
theorem clock_of_standing : t.clock = s.clock := congrArg Standing.clock h
theorem accounts_of_standing : t.accounts = s.accounts := congrArg Standing.accounts h
theorem zones_of_standing : t.zones = s.zones := congrArg Standing.zones h
theorem nodes_of_standing : t.nodes = s.nodes := congrArg Standing.nodes h
theorem tagIndex_of_standing : t.tagIndex = s.tagIndex := congrArg Standing.tagIndex h
theorem site_of_standing : t.site = s.site := congrArg Standing.site h
theorem pending_of_standing : t.pending = s.pending := congrArg Standing.pending h
end

end Sys2Proof.Machine

/-! ## SUPPORT. The Roster Unit: minutes, the cool-down deadline, reports and the results of orders -/

namespace Sys2Proof.Machine

/-! ## The minute tick (R19, R145) -/

theorem OpState.burns_iff {o : OpState} : o.burns = true ↔ o = .starting ∨ o = .running ∨ o = .cooling := by
  cases o <;> decide

theorem SetRec.addMinutes_one (r : SetRec) : r.addMinutes 1 = { r with
    hireMin := r.hireMin + 1
    runMin := if r.op = .starting ∨ r.op = .running ∨ r.op = .cooling then r.runMin + 1 else r.runMin } := by
  simp only [SetRec.addMinutes, OpState.burns_iff]

theorem exec_minuteTick {s : State} (h : s.resetHeld = false) : exec .minuteTick s = .next (minuteTick s) :=
  congrArg Host.Outcome.next (unlessHeld_free h)

theorem minuteTick_of_none {s : State} (h : s.clock / 60 ≤ s.minutesTaken) : minuteTick s = s :=
  if_neg (Nat.not_lt.2 h)

theorem minuteTick_of_waiting {s : State} (h : s.minutesTaken < s.clock / 60) :
    minuteTick s = addPeriodMinutes 1 (countMinutes 1 (s.setMinutesTaken (s.minutesTaken + 1))) := if_pos h

theorem addPeriodMinutes_below {k : Nat} {s : State} (h : s.site.minuteCount + k < s.site.periodLength) :
    addPeriodMinutes k s = s.onSite (fun p => { p with minuteCount := s.site.minuteCount + k }) :=
  if_neg (Nat.not_le.2 h)

theorem addPeriodMinutes_matched {k : Nat} {s : State} (h : s.site.periodLength ≤ s.site.minuteCount + k) :
    addPeriodMinutes k s =
      let t := s.onSite (fun p => { p with minuteCount := 0 })
      if s.site.closeState = .opened then closeDue t else t := if_pos h

/-! ## The cool-down deadline (R15) -/

theorem exec_coolDownDeadline {s : State} (h : s.resetHeld = false) (n : Nat) :
    exec (.coolDownDeadline n) s = .next (coolDownEnds n s) := congrArg Host.Outcome.next (unlessHeld_free h)

theorem coolDownEnds_of_reached {s : State} {n d : Nat} (hd : (s.setRec n).coolDeadline = some d)
    (h : d ≤ s.clock) :
    coolDownEnds n s = sendStop n (s.updSet n (fun r => { r with coolDeadline := none })) := by
  simp [coolDownEnds, reached, hd, h]

theorem coolDownEnds_of_not_reached {s : State} {n : Nat}
    (h : ∀ d, (s.setRec n).coolDeadline = some d → s.clock < d) : coolDownEnds n s = s := by
  unfold coolDownEnds reached
  cases hd : (s.setRec n).coolDeadline with
  | none => rfl
  | some d => simp [h d hd]

/-! ## A change of op state -/

theorem changeOp_same {n : Nat} {op : OpState} {s : State} (h : (s.setRec n).op = op) : changeOp n op s = s :=
  if_pos h

theorem changeOp_of_ne {n : Nat} {op : OpState} {s : State} (h : (s.setRec n).op ≠ op) :
    changeOp n op s = raiseIfFault n op (transferSees n (s.setRec n).op
      (recomputeSupply (s.setRec n).tank (s.updSet n (SetRec.enter op)))) := if_neg h

@[simp] theorem raiseIfFault_standing (n : Nat) (op : OpState) (s : State) :
    (raiseIfFault n op s).standing = s.standing := by simp [raiseIfFault]

/-- Entering the op state it has leaves a set as it is, its cool-down deadline too. -/
theorem SetRec.enter_self (r : SetRec) : r.enter r.op = r := by
  unfold SetRec.enter; rw [if_neg (fun h => h.2 h.1)]

/-- What a change of op state hands on leaves the set in its new state and every other set in its own. -/
theorem changeOp_standing (n : Nat) (op : OpState) (s : State) :
    (changeOp n op s).standing = (s.updSet n (SetRec.enter op)).standing := by
  by_cases h : (s.setRec n).op = op
  · rw [changeOp_same h, State.updSet_standing_of_find]
    intro r hr
    rw [← h, State.setRec_of_find hr, SetRec.enter_self]
  · simp [changeOp_of_ne h]

/-- Set `n`, whose record was `r`, has entered `op`, and what was handed on changed no other op state. -/
structure OpEntered (n : Nat) (r : SetRec) (op : OpState) (s t : State) : Prop where
  op_eq : (t.setRec n).op = op
  silent_eq : (t.setRec n).silent = r.silent
  silentCount_eq : (t.setRec n).silentCount = r.silentCount
  deadline_of_leaves : r.op = .cooling → op ≠ .cooling → (t.setRec n).coolDeadline = none
  others : ∀ m, m ≠ n → (t.setRec m).op = (s.setRec m).op
  accounts_eq : t.accounts = s.accounts
  zones_eq : t.zones = s.zones
  nodes_eq : t.nodes = s.nodes
  clock_eq : t.clock = s.clock

theorem changeOp_enters {n : Nat} {r : SetRec} {s : State} (hr : s.set? n = some r) (op : OpState) :
    OpEntered n r op s (changeOp n op s) := by
  have hst := changeOp_standing n op s
  have hrec := State.setRec_updSet_self hr (SetRec.enter op)
  constructor
  case op_eq => rw [op_of_standing hst, hrec]; rfl
  case silent_eq => rw [silent_of_standing hst, hrec]; rfl
  case silentCount_eq => rw [silentCount_of_standing hst, hrec]; rfl
  case deadline_of_leaves =>
    intro hc hne
    rw [coolDeadline_of_standing hst (by rw [hrec]; exact hne), hrec]
    exact if_pos ⟨hc, hne⟩
  case others => exact fun m hm => by rw [op_of_standing hst, State.setRec_updSet_ne hm]
  case accounts_eq => rw [accounts_of_standing hst]; rfl
  case zones_eq => rw [zones_of_standing hst]; rfl
  case nodes_eq => rw [nodes_of_standing hst]; rfl
  case clock_eq => rw [clock_of_standing hst]; rfl

/-! ## STATE -/

/-- An unprompted STATE from a known node is taken as a report (R11, R187). -/
theorem exec_state_of_reports {s u : State} {slot node tag : Nat} {op : OpState}
    (h : Reports s slot node (.state tag op) u) : exec (.state slot) s = .next (takeState node tag op u) := by
  obtain ⟨t, hsource, hcloses, -, heq⟩ := dispatchSlot_of_reports (act := dispatchState)
    (mine := fun m => match m with | .state _ _ => true | _ => false) h rfl
  refine (congrArg Host.Outcome.next heq).trans ?_
  simp [dispatchState, wrongKind_of_reports hcloses, Slot.answers_none hcloses, hsource]

theorem takeState_unmatched {u : State} {node tag : Nat} (op : OpState) (h : u.setReporting node tag = none) :
    takeState node tag op u = u := by rw [takeState, h]

/-- The silent mark and the silent count are cleared (R11). -/
def State.heardFrom (n : Nat) (s : State) : State :=
  s.updSet n (fun x => { x with silent := false, silentCount := 0 })

theorem heardFrom_set? {s : State} {n : Nat} {r : SetRec} (hr : s.set? n = some r) :
    (s.heardFrom n).set? n = some { r with silent := false, silentCount := 0 } := by
  rw [State.heardFrom, State.set?_updSet, if_pos rfl, hr]; rfl

/-- A matched STATE clears the silence of its set and then changes its op state (R11). -/
theorem takeState_matched {u : State} {node tag n : Nat} (op : OpState) (h : u.setReporting node tag = some n) :
    takeState node tag op u = changeOp n (reportedOp (u.setRec n).op op) (u.heardFrom n) := by
  rw [takeState, h]; rfl

/-! ## The Transfer Controller is told, and no bus is reached -/

/-- With no LOST bus handed to it the arbiter does nothing (R105). -/
theorem arbitrate_nil (s : State) : arbitrate [] s = s := by
  simp [arbitrate, State.lostNaming, Tbl.nums]

theorem transferSees_of_no_bus {n : Nat} {s : State} (h : s.busesOf n = []) (was : OpState) :
    transferSees n was s = s := by
  rw [transferSees, h, seeBuses_nil]
  exact arbitrate_nil s

/-- A set that supplies no bus and takes part in no changeover concerns no bus (R101). -/
theorem busesOf_eq_nil {n : Nat} {s : State} (hsup : ∀ x ∈ s.buses, x.2.supplying ≠ some n)
    (hch : (s.setRec n).chBus = none) : s.busesOf n = [] := by
  simp only [State.busesOf, Tbl.nums, List.map_eq_nil_iff, List.filter_eq_nil_iff]
  intro x hx
  simp [hsup x hx, hch]

/-- Recomputing a set's tank changes the tanks and raises LOW_FUEL at most (R12, R40). -/
theorem recomputeSupply_frame (tank : Option Nat) (s : State) :
    ∃ t p, recomputeSupply tank s = { s with tanks := t, port := p } := by
  cases tank with
  | none => exact ⟨s.tanks, s.port, rfl⟩
  | some n =>
    simp only [recomputeSupply, recomputeTank, evalLowMark]
    split
    · exact ⟨_, _, rfl⟩
    · split_ifs <;> exact ⟨_, _, rfl⟩

@[simp] theorem raiseIfFault_sets (n : Nat) (op : OpState) (s : State) : (raiseIfFault n op s).sets = s.sets := by
  unfold raiseIfFault; split <;> rfl

/-- A change of op state of a set that no bus concerns writes that set's record and no other. -/
theorem changeOp_sets_of_no_bus {n : Nat} {op : OpState} {r : SetRec} {s : State} (hr : s.set? n = some r)
    (hne : r.op ≠ op) (hsup : ∀ x ∈ s.buses, x.2.supplying ≠ some n) (hch : r.chBus = none) :
    (changeOp n op s).sets = (s.updSet n (SetRec.enter op)).sets := by
  obtain ⟨t, p, h⟩ := recomputeSupply_frame r.tank (s.updSet n (SetRec.enter op))
  have hrec := congrArg SetRec.chBus (State.setRec_updSet_self hr (SetRec.enter op))
  have hno : State.busesOf { s.updSet n (SetRec.enter op) with tanks := t, port := p } n = [] :=
    busesOf_eq_nil hsup (hrec.trans hch)
  rw [changeOp_of_ne (by rw [State.setRec_of_find hr]; exact hne), State.setRec_of_find hr, h, raiseIfFault_sets,
    transferSees_of_no_bus hno]

/-! ## RESULT -/

/-- A RESULT is the outcome of the order whose exchange it closed (R184). -/
theorem exec_result_of_replies {s u : State} {slot node : Nat} {ok : Bool} {meter : Option Nat} {e : Exchange}
    (h : Replies s slot node (.result ok meter) e u) :
    exec (.result slot) s = .next (resultFor e.id e.purpose ok meter u) := by
  obtain ⟨t, -, -, hanswers, heq⟩ := dispatchSlot_of_replies (act := dispatchResult)
    (mine := fun m => match m with | .result _ _ => true | _ => false) h rfl
  refine (congrArg Host.Outcome.next heq).trans ?_
  simp [dispatchResult, hanswers]

/-- The cool-down deadline is set: now plus the set's cool-down (R15). -/
def State.setCooling (n : Nat) (s : State) : State :=
  s.updSet n (fun t => { t with coolDeadline := some (s.clock + t.coolDown) })

theorem setCooling_set? {s : State} {n : Nat} {r : SetRec} (hr : s.set? n = some r) :
    (s.setCooling n).set? n = some { r with coolDeadline := some (s.clock + r.coolDown) } := by
  rw [State.setCooling, State.set?_updSet, if_pos rfl, hr]; rfl

section
variable {s : State} {n : Nat} {r : SetRec} (hr : s.set? n = some r)
include hr

theorem sameSet_of_find : s.sameSet n r.serial = true := by
  simp [State.sameSet, hr]

theorem coolOutcome_accepted : coolOutcome n r.serial .accepted s = coolAccepted n s :=
  if_pos (sameSet_of_find hr)

theorem coolOutcome_refused : coolOutcome n r.serial .refused s = s :=
  if_pos (sameSet_of_find hr)

theorem stopOutcome_accepted :
    stopOutcome n r.serial .accepted s = if r.op.burns then changeOp n .stopped s else s := by
  rw [stopOutcome, if_pos (sameSet_of_find hr), State.setRec_of_find hr]

theorem stopOutcome_refused : stopOutcome n r.serial .refused s = s :=
  if_pos (sameSet_of_find hr)

theorem coolAccepted_not_running (h : r.op ≠ .running) : coolAccepted n s = s :=
  if_neg (by rw [State.setRec_of_find hr]; exact h)

theorem coolAccepted_needed (h : r.op = .running) (hn : r.supplies ≠ 0 ∨ r.chBus ≠ none) :
    coolAccepted n s = sendStartCancel n s := by
  have hno : ¬ (r.supplies = 0 ∧ r.chBus = none) := fun hc => hn.elim (· hc.1) (· hc.2)
  rw [coolAccepted, State.setRec_of_find hr, if_pos h, if_neg hno]

theorem coolAccepted_idle (h : r.op = .running) (hs : r.supplies = 0) (hch : r.chBus = none) :
    coolAccepted n s = changeOp n .cooling (s.setCooling n) := by
  rw [coolAccepted, State.setRec_of_find hr, if_pos h, if_pos ⟨hs, hch⟩]; rfl

/-- A set that no bus concerns becomes COOLING and keeps the deadline just set (R15). -/
theorem coolAccepted_cools (h : r.op = .running) (hs : r.supplies = 0) (hch : r.chBus = none)
    (hsup : ∀ x ∈ s.buses, x.2.supplying ≠ some n) :
    ((coolAccepted n s).setRec n).op = .cooling
    ∧ ((coolAccepted n s).setRec n).coolDeadline = some (s.clock + r.coolDown)
    ∧ (∀ m, m ≠ n → ((coolAccepted n s).setRec m).op = (s.setRec m).op)
    ∧ (coolAccepted n s).accounts = s.accounts := by
  have hset := setCooling_set? hr
  have hent := changeOp_enters hset .cooling
  have hsets := changeOp_sets_of_no_bus (op := .cooling) hset (by rw [h]; decide) hsup hch
  rw [coolAccepted_idle hr h hs hch]
  refine ⟨hent.op_eq, ?_, fun m hm => ?_, hent.accounts_eq⟩
  · rw [State.setRec_congr hsets, State.setRec_updSet_self hset]
    exact if_neg (fun hc => hc.2 rfl)
  · rw [hent.others m hm, State.setCooling, State.setRec_updSet_ne hm]

end

end Sys2Proof.Machine

/-! ## SUPPORT. ENROL of a set without its optional fields (R4, R5) -/

namespace Sys2Proof.Machine

/-- The field list of an ENROL of a set without the optional fields. -/
def plainSetFields (tag node kw c0 c1 c2 c3 c4 idle : Nat) : Fields :=
  [(2, tag), (3, node), (4, kw), (261, c0), (517, c1), (773, c2), (1029, c3), (1285, c4), (6, idle)]

/-- An ENROL at ring 0 on a table that takes one is checked by that table's rules (R164). -/
theorem execEnrol_of_presents {s u : State} {src : Source} {a : Asked} {t : TableId}
    (h : Presents s .enrol src a u) (hring : a.ring = 0) (htable : a.req.table = t.code)
    (hsel : a.req.selector = 0) (ht : t ≠ .deliveries ∧ t ≠ .site) :
    Answers (.enrol src) s a (enrolTable a t u) := by
  have hm : a.req.matched .enrol = true := by simp [Request.matched, htable, hsel, ReqKind.appliesTo]
  have hr : ringAdmits .enrol (TableId.ofCode a.req.table) a.ring = true := by
    simp [ringAdmits, htable, hring, ht]
  unfold Answers
  rw [exec, execEnrol, runRequest_of_presents _ h, hm, hr, Asked.onTable, htable, TableId.ofCode_code]
  rfl

section
variable {tag node kw c0 c1 c2 c3 c4 idle : Nat} {u : State}

theorem enrolRefusal_plainSet : (plainSetFields tag node kw c0 c1 c2 c3 c4 idle).enrolRefusal
    ([2, 3, 4, 6, 7, 8, 9] ++ entryIds 5 5) TableId.sets.fieldIds = none := rfl

theorem equipment_of_held (h2 : 2 ≤ node) (h62 : node ≤ 62)
    (h : ∃ r, u.node? node = some r ∧ r.role = .equipment) :
    u.equipment node = true := by
  obtain ⟨r, hr, hrole⟩ := h
  simp [State.equipment, inRange, Config.nodes, h2, h62, hr, hrole]

/-- With every given field in range the checks left are those of the tag, the node, the bucket and the table (R4). -/
theorem setChecks_plainSet (htag : 1 ≤ tag ∧ tag ≤ 4294967295) (hnode : u.equipment node = true)
    (hkw : 10 ≤ kw ∧ kw ≤ 1000) (hcurve : ∀ c ∈ [c0, c1, c2, c3, c4], 100 ≤ c ∧ c ≤ 999)
    (hidle : idle ≤ 50000) :
    setChecks (plainSetFields tag node kw c0 c1 c2 c3 c4 idle) u =
      [ (true, .outOfRange)
      , ((u.bucket tag).all (fun n => decide ((u.setRec n).tag ≠ tag)), .duplicate)
      , ((u.sets.numWhere (fun r => decide (r.node = node))).isNone, .duplicate)
      , (decide ((u.bucket tag).length < 2), .collision)
      , ((u.sets.lowestFree 48).isSome, .noRoom)
      , (true, .noRecord)
      , (true, .noRoom) ] := by
  have hrange : (true && tagOk tag && u.equipment node && ratedOk kw && [c0, c1, c2, c3, c4].all curveOk
      && noLoadOk idle && true) = true := by
    simp only [List.mem_cons, List.not_mem_nil, or_false, forall_eq_or_imp, forall_eq] at hcurve
    simp [tagOk, ratedOk, curveOk, noLoadOk, inRange, Config.max32, *]
  exact congrArg
    (fun b => (b, .outOfRange) :: (setChecks (plainSetFields tag node kw c0 c1 c2 c3 c4 idle) u).tail) hrange

theorem enrolSet_refused {fs : Fields} {x : Answer}
    (hf : fs.enrolRefusal ([2, 3, 4, 6, 7, 8, 9] ++ entryIds 5 5) TableId.sets.fieldIds = none)
    (h : firstFailing (setChecks fs u) = some x) : enrolSet fs u = refuse x u := by
  simp only [enrolSet, enrolWith, hf, h]

theorem enrolSet_accepted {fs : Fields}
    (hf : fs.enrolRefusal ([2, 3, 4, 6, 7, 8, 9] ++ entryIds 5 5) TableId.sets.fieldIds = none)
    (h : firstFailing (setChecks fs u) = none) :
    enrolSet fs u = accept (if fs.clamped 7 60 900 then .doneAdjusted else .done) .sets
      ((u.sets.lowestFree 48).getD 0) (writeSet ((u.sets.lowestFree 48).getD 0) fs u) := by
  simp only [enrolSet, enrolWith, hf, h]; rfl

theorem writeSet_plainSet (n : Nat) :
    writeSet n (plainSetFields tag node kw c0 c1 c2 c3 c4 idle) u =
      { u with
        nextId := u.nextId + 1
        sets := Tbl.put u.sets n
          { status := .inUse, tag, node, rated := kw, curve := ⟨c0, c1, c2, c3, c4⟩, noLoad := idle
            coolDown := 300, lastEstimate := u.clock, serial := u.nextId }
        tagIndex := Tbl.put u.tagIndex (tag % 127) (u.bucket tag ++ [n]) } := rfl

end

end Sys2Proof.Machine

/-! ## SUPPORT. The line reset, block by block (R20, R44, R81, R112, R137, R159, R190, R199) -/

namespace Sys2Proof.Machine

/-! ## What the steps of a line reset leave as it was -/

section
variable (s : State) (n bus : Nat)

@[simp] theorem resetAbort_standing : (resetAbort bus s).standing = s.standing := by
  simp [resetAbort]
@[simp] theorem uncertainRecord_standing : (uncertainRecord bus s).standing = s.standing := by
  simp [uncertainRecord]
@[simp] theorem resetUncertain_standing : (resetUncertain bus s).standing = s.standing := by
  simp [resetUncertain]
@[simp] theorem resetBus_standing : (resetBus bus s).standing = s.standing := by
  unfold resetBus; split <;> simp
@[simp] theorem resetTransfer_standing : (resetTransfer s).standing = s.standing := by
  simp [resetTransfer]
@[simp] theorem resetCredit_standing : (resetCredit n s).standing = s.standing := by
  simp [resetCredit]
@[simp] theorem resetGathering_standing : (resetGathering n s).standing = s.standing := by
  simp [resetGathering]
@[simp] theorem resetDelivery_standing : (resetDelivery n s).standing = s.standing := by
  simp [resetDelivery]
@[simp] theorem resetCtx_standing : (resetCtx n s).standing = s.standing := by
  unfold resetCtx; split <;> simp

/-! ## Buses at a line reset (R112) -/

@[simp] theorem forEach_buses {α : Type} {f : α → State → State} (h : ∀ x t, (f x t).buses = t.buses)
    (xs : List α) : (forEach xs f s).buses = s.buses := forEach_same State.buses f h xs s
@[simp] theorem offerBoundary_buses : (offerBoundary n s).buses = s.buses := by
  unfold offerBoundary
  rcases offerQuery_cases (s.feederRec n).meter Kind.readMeter (.readMeter n) true s with
    ⟨-, q, h⟩ | ⟨-, h⟩ <;> rw [h] <;> rfl
@[simp] theorem askBoundary_buses : (askBoundary n s).buses = s.buses := by
  unfold askBoundary; dsimp only; split <;> simp
@[simp] theorem markSupplyChange_buses (x : Option Nat) : (markSupplyChange bus x s).buses = s.buses := by
  simp [markSupplyChange]
@[simp] theorem decSupplies_buses : (decSupplies n s).buses = s.buses := by
  unfold decSupplies coolCheck; dsimp only; split <;> rfl
@[simp] theorem incSupplies_buses : (incSupplies n s).buses = s.buses := rfl
@[simp] theorem clearPart_buses : (clearPart n s).buses = s.buses := by simp [clearPart]

end

/-- In STEADY, LOST or UNCERTAIN: in no changeover (03, "The bus record"). -/
def BusState.settled (b : BusState) : Prop := b = .steady ∨ b = .lost ∨ b = .uncertain

/-- `t` holds a settled bus `b`, and every other bus as `s` holds it. -/
structure Settles (b : Nat) (s t : State) : Prop where
  settled : (t.busRec b).state.settled
  others : ∀ c, c ≠ b → t.busRec c = s.busRec c

theorem State.busRec_congr {s t : State} (h : t.buses = s.buses) (n : Nat) : t.busRec n = s.busRec n := by
  rw [State.busRec, State.bus?, h]; rfl

theorem State.busRec_updBus_ne {n m : Nat} (h : m ≠ n) (f : BusRec → BusRec) (s : State) :
    (s.updBus n f).busRec m = s.busRec m := by
  rw [State.busRec, State.bus?_updBus, if_neg h]; rfl

/-- A bus written with a settled state is settled, and a FREE one is (R49). -/
theorem settles_updBus (b : Nat) (f : BusRec → BusRec) (s : State) (h : ∀ r, (f r).state.settled) :
    Settles b s (s.updBus b f) := by
  refine ⟨?_, fun c hc => State.busRec_updBus_ne hc f s⟩
  rw [State.busRec, State.bus?_updBus, if_pos rfl]
  cases s.bus? b with
  | none => exact .inr (.inl rfl)
  | some r => exact h r

/-- What changed no other bus may come before. -/
theorem Settles.after {b : Nat} {s t u : State} (h : ∀ c, c ≠ b → t.busRec c = s.busRec c)
    (h' : Settles b t u) : Settles b s u := ⟨h'.settled, fun c hc => (h'.others c hc).trans (h c hc)⟩

/-- What changes no bus may come after. -/
theorem Settles.congr {b : Nat} {s t u : State} (h : Settles b s t) (hu : u.buses = t.buses) : Settles b s u :=
  ⟨by rw [State.busRec_congr hu]; exact h.settled, fun c hc => (State.busRec_congr hu c).trans (h.others c hc)⟩

theorem loseSupply_settles {b : Nat} {s : State} (h : (s.busRec b).state.settled) :
    Settles b s (loseSupply b s) := by
  unfold loseSupply
  split
  · exact ⟨h, fun _ _ => rfl⟩
  · have hlost := settles_updBus b
      (fun r => { r with state := .lost, supplying := none, deadSince := some s.clock }) s (fun _ => .inr (.inl rfl))
    exact hlost.congr (by simp)

/-- The losses of supply that follow an abort leave its bus settled (R85). -/
theorem forEach_loseSupply_settles {b : Nat} {ds : List Nat} {s t : State} (hds : ∀ d ∈ ds, d = b)
    (h : Settles b s t) : Settles b s (forEach ds loseSupply t) :=
  forEach_induct (fun u => Settles b s u) loseSupply ds
    (fun d hd u hu => by rw [hds d hd]; exact Settles.after hu.others (loseSupply_settles hu.settled)) t h

/-- STEADY is entered, or LOST with the loss of supply to follow (R85). -/
theorem enterSteady_settles (b x : Nat) (s : State) :
    Settles b s (enterSteady b x s).1 ∧ ∀ d ∈ (enterSteady b x s).2, d = b := by
  unfold enterSteady
  split
  · exact ⟨settles_updBus b _ s (fun _ => .inl rfl), by simp⟩
  · exact ⟨settles_updBus b _ s (fun _ => .inr (.inl rfl)), by simp⟩

theorem abortCounts_of_waiting {b inc : Nat} {reason : AbortReason} {s : State}
    (h : (s.busRec b).state = .pending ∨ (s.busRec b).state = .syncing) : abortCounts b inc reason s = s := by
  rcases h with h | h <;> simp [abortCounts, h]

/-- An abort of a bus in PENDING or SYNCING leaves it STEADY or LOST (R99). -/
theorem abortBack_settles {b : Nat} {reason : AbortReason} {s : State}
    (h : (s.busRec b).state = .pending ∨ (s.busRec b).state = .syncing) :
    Settles b s (abortBack b reason s).1 ∧ ∀ d ∈ (abortBack b reason s).2.drop, d = b := by
  unfold abortBack abort
  simp only [abortCounts_of_waiting h, Bool.false_eq_true, if_false]
  have hend : ∀ c, c ≠ b → (s.updBus b BusRec.endChangeover).busRec c = s.busRec c :=
    fun c hc => State.busRec_updBus_ne hc _ s
  split
  · refine ⟨?_, by simp⟩
    have hlost := settles_updBus b (fun r => { r with state := .lost }) (s.updBus b BusRec.endChangeover)
      (fun _ => .inr (.inl rfl))
    exact (Settles.after hend hlost).congr (by simp)
  · next o _ =>
    have hclear := forEach_buses (s.updBus b BusRec.endChangeover) (f := clearPart) (fun n t => clearPart_buses t n)
      ((s.busRec b).incoming.getD 0 :: (s.busRec b).supplying.toList)
    obtain ⟨hsteady, hdrop⟩ := enterSteady_settles b o (forEach _ clearPart (s.updBus b BusRec.endChangeover))
    exact ⟨Settles.after (fun c hc => (State.busRec_congr hclear c).trans (hend c hc)) hsteady, hdrop⟩

theorem resetAbort_settles {b : Nat} {s : State}
    (h : (s.busRec b).state = .pending ∨ (s.busRec b).state = .syncing) : Settles b s (resetAbort b s) := by
  obtain ⟨hs, hdrop⟩ := abortBack_settles (reason := .lineReset) h
  exact (forEach_loseSupply_settles hdrop hs).congr rfl

theorem resetUncertain_settles (b : Nat) (s : State) : Settles b s (resetUncertain b s) := by
  have h := settles_updBus b (fun r => { r with state := .uncertain, phase := none, step := none, awaited := none }) s
    (fun _ => .inr (.inr rfl))
  refine h.congr ?_
  simp only [resetUncertain, uncertainRecord, State.onResetWork_buses]
  split <;> rfl

theorem resetBus_settles (b : Nat) (s : State) : Settles b s (resetBus b s) := by
  unfold resetBus
  split
  next h => exact resetAbort_settles (.inl h)
  next h => exact resetAbort_settles (.inr h)
  next => exact resetUncertain_settles b s
  next => exact resetUncertain_settles b s
  next => exact resetUncertain_settles b s
  next => exact resetUncertain_settles b s
  next h => exact ⟨.inl h, fun _ _ => rfl⟩
  next h => exact ⟨.inr (.inl h), fun _ _ => rfl⟩
  next h => exact ⟨.inr (.inr h), fun _ _ => rfl⟩

/-- Every bus that is dealt with, or settled before, is settled after. -/
theorem forEach_resetBus_settled {c : Nat} (bs : List Nat) (s : State)
    (h : c ∈ bs ∨ (s.busRec c).state.settled) : ((forEach bs resetBus s).busRec c).state.settled := by
  induction bs generalizing s with
  | nil => exact h.resolve_left (List.not_mem_nil)
  | cons b bs ih =>
    refine ih _ ?_
    by_cases hc : c = b
    · exact .inr (hc ▸ (resetBus_settles b s).settled)
    · rw [(resetBus_settles b s).others c hc]
      exact h.imp_left (fun hm => (List.mem_cons.1 hm).resolve_left hc)

/-- No bus is left in a changeover by a line reset (R112). -/
theorem resetTransfer_settled (s : State) (n : Nat) : ((resetTransfer s).busRec n).state.settled := by
  have h : ((forEach s.buses.nums resetBus s).busRec n).state.settled := by
    refine forEach_resetBus_settled _ s ?_
    by_cases hn : n ∈ s.buses.nums
    · exact .inl hn
    · have hfree : s.bus? n = none := Tbl.find_eq_none.2 hn
      exact .inr (.inr (.inl (by rw [State.busRec, hfree]; rfl)))
  have hall : (resetTransfer s).bus? n = ((forEach s.buses.nums resetBus s).bus? n).map BusRec.lineReset :=
    Tbl.find_updAll _ _ n
  rw [State.busRec] at h ⊢
  rw [hall]
  cases hb : (forEach s.buses.nums resetBus s).bus? n with
  | none => exact .inr (.inl rfl)
  | some r => rw [hb] at h; exact h

/-! ## Delivery contexts at a line reset (R137) -/

/-- A context dealt with is IDLE or DONE (R137). -/
theorem resetCtx_ended (n : Nat) (s : State) :
    ((resetCtx n s).ctx n).state = .idle ∨ ((resetCtx n s).ctx n).state = .done := by
  have hdone : ((resetDelivery n s).ctx n).state = .done :=
    congrArg Ctx.state (State.ctx_updCtx (resetCredit n s) n _)
  unfold resetCtx
  split
  next => exact .inl (congrArg Ctx.state (State.ctx_updCtx s n _))
  next => exact .inr hdone
  next => exact .inr hdone
  next => exact .inr hdone
  next => exact .inr hdone
  next h => exact .inl h
  next h => exact .inr h

@[simp] theorem resetCredit_two_ctx1 (s : State) : (resetCredit 2 s).ctx1 = s.ctx1 := by
  unfold resetCredit; dsimp only; split <;> simp

theorem resetCtx_two_ctx1 (s : State) : (resetCtx 2 s).ctx1 = s.ctx1 := by
  unfold resetCtx resetGathering resetDelivery
  split <;> simp

theorem resetCtxs_ended (s : State) (n : Nat) : ((resetCtx 2 (resetCtx 1 s)).ctx n).state = .idle
    ∨ ((resetCtx 2 (resetCtx 1 s)).ctx n).state = .done := by
  by_cases hn : n = 1
  · have h := resetCtx_ended 1 s
    rw [State.ctx, if_pos rfl, ← resetCtx_two_ctx1] at h
    rwa [State.ctx, if_pos hn]
  · have h := resetCtx_ended 2 (resetCtx 1 s)
    rw [State.ctx, if_neg (by decide)] at h
    rwa [State.ctx, if_neg hn]

@[simp] theorem resetCredit_buses (n : Nat) (s : State) : (resetCredit n s).buses = s.buses := by
  unfold resetCredit; dsimp only; split <;> simp

@[simp] theorem resetCtx_buses (n : Nat) (s : State) : (resetCtx n s).buses = s.buses := by
  unfold resetCtx resetGathering resetDelivery
  split <;> simp

/-! ## LINE_RESET -/

/-- The steps of a line reset by which blocks act on one another (R112, R137). -/
def blocksReset (s : State) : State := resetCtx 2 (resetCtx 1 (resetTransfer s))

/-- The rest of a line reset: each record's own fields, the line, the port, and RESET held (R190, R199). -/
def fieldsReset (t : State) : State :=
  (((resetRecords t).onLine (fun _ => {})).onPort Port.lineReset).setResetHeld true

theorem lineReset_eq (s : State) : lineReset s = fieldsReset (blocksReset s) := rfl

section
variable (t : State)

@[simp] theorem fieldsReset_clock : (fieldsReset t).clock = t.clock := by simp [fieldsReset, resetRecords]
@[simp] theorem fieldsReset_zones : (fieldsReset t).zones = t.zones := by simp [fieldsReset, resetRecords]
@[simp] theorem fieldsReset_accounts : (fieldsReset t).accounts = t.accounts := by simp [fieldsReset, resetRecords]
@[simp] theorem fieldsReset_nodes : (fieldsReset t).nodes = t.nodes := by simp [fieldsReset, resetRecords]
@[simp] theorem fieldsReset_tagIndex : (fieldsReset t).tagIndex = t.tagIndex := by simp [fieldsReset, resetRecords]
@[simp] theorem fieldsReset_pending : (fieldsReset t).pending = t.pending := by simp [fieldsReset, resetRecords]
@[simp] theorem fieldsReset_site : (fieldsReset t).site = t.site.lineReset := by simp [fieldsReset, resetRecords]
@[simp] theorem fieldsReset_sets : (fieldsReset t).sets = t.sets.updAll SetRec.lineReset := by
  simp [fieldsReset, resetRecords]
@[simp] theorem fieldsReset_tanks : (fieldsReset t).tanks = t.tanks.updAll TankRec.lineReset := by
  simp [fieldsReset, resetRecords]
@[simp] theorem fieldsReset_busRec (n : Nat) : (fieldsReset t).busRec n = t.busRec n :=
  State.busRec_congr (by simp [fieldsReset, resetRecords]) n
@[simp] theorem fieldsReset_ctx (n : Nat) : (fieldsReset t).ctx n = t.ctx n := by
  simp [fieldsReset, resetRecords, State.ctx]

end

theorem blocksReset_standing (s : State) : (blocksReset s).standing = s.standing := by simp [blocksReset]

theorem blocksReset_settled (s : State) (n : Nat) : ((blocksReset s).busRec n).state.settled := by
  have hb : (blocksReset s).buses = (resetTransfer s).buses := by simp [blocksReset]
  rw [State.busRec_congr hb]
  exact resetTransfer_settled s n

theorem blocksReset_ended (s : State) (n : Nat) :
    ((blocksReset s).ctx n).state = .idle ∨ ((blocksReset s).ctx n).state = .done :=
  resetCtxs_ended (resetTransfer s) n

theorem fieldsReset_set? (t : State) (n : Nat) : (fieldsReset t).set? n = (t.set? n).map SetRec.lineReset := by
  rw [State.set?, fieldsReset_sets, Tbl.find_updAll]; rfl

theorem fieldsReset_silentCount (t : State) (n : Nat) : ((fieldsReset t).setRec n).silentCount = 0 := by
  rw [State.setRec, fieldsReset_set?]
  cases t.set? n <;> rfl

theorem fieldsReset_gaugeDeferred (t : State) (n : Nat) : ((fieldsReset t).tankRec n).gaugeDeferred = false := by
  rw [State.tankRec, State.tank?, fieldsReset_tanks, Tbl.find_updAll]
  cases Tbl.find t.tanks n <;> rfl

theorem fieldsReset_statusOp {s t : State} (h : t.standing = s.standing) (n : Nat) :
    ((fieldsReset t).set? n).map (fun r => (r.status, r.op)) = (s.set? n).map (fun r => (r.status, r.op)) := by
  have hview := congrArg (Option.map (fun v => (v.status, v.op))) (set?_standing h n)
  rw [Option.map_map, Option.map_map] at hview
  rw [fieldsReset_set?, Option.map_map]
  exact hview

theorem exec_lineReset {s : State} (h : s.resetHeld = false) : exec .lineReset s = .next (lineReset s) := by
  rw [exec, execLineReset, h]; rfl

end Sys2Proof.Machine

/-! ## The statements of the generator sets, settled -/

namespace Sys2Proof.Proofs

open Sys2Proof.Machine

/-- Settles O9: no block's steps change what a state of the same standing keeps; they leave every bus settled and both
contexts ended, and the rest is fields. -/
theorem lineReset : Obligations.LineReset := by
  intro s hs
  have hst := blocksReset_standing s
  have hbus := blocksReset_settled s
  have hctx := blocksReset_ended s
  rw [exec_lineReset hs, lineReset_eq]
  generalize blocksReset s = t at hst hbus hctx
  refine ⟨fieldsReset t, rfl, rfl, rfl, rfl, rfl, ?_,
    fun n => ⟨fieldsReset_statusOp hst n, fieldsReset_silentCount t n⟩, fun n => ?_, fun n => ?_,
    fieldsReset_gaugeDeferred t, ?_, ?_, ?_, ?_, ?_, ?_⟩
  · rw [fieldsReset_site]; exact congrArg Site.lineReset (site_of_standing hst)
  · rw [fieldsReset_ctx]; exact hctx n
  · rw [fieldsReset_busRec]; exact hbus n
  · rw [fieldsReset_clock, clock_of_standing hst]
  · rw [fieldsReset_zones, zones_of_standing hst]
  · rw [fieldsReset_accounts, accounts_of_standing hst]
  · rw [fieldsReset_nodes, nodes_of_standing hst]
  · rw [fieldsReset_tagIndex, tagIndex_of_standing hst]
  · rw [fieldsReset_pending, pending_of_standing hst]

/-- Settles O30: the first of the checks of R4 that fails gives the refusal, and with none failing the record and the
bucket are written. -/
theorem enrolSet : Obligations.EnrolSet := by
  intro s u src a tag node kw c0 c1 c2 c3 c4 idle hp hring htable hsel hfields htag1 htag2 hn2 hn62 hnode
    hkw1 hkw2 hcurve hidle bucket
  have hex := execEnrol_of_presents (t := .sets) hp hring htable hsel (by decide)
  rw [enrolTable, show a.req.fields = plainSetFields tag node kw c0 c1 c2 c3 c4 idle from hfields] at hex
  have hchecks := setChecks_plainSet (u := u) ⟨htag1, htag2⟩ (equipment_of_held hn2 hn62 hnode)
    ⟨hkw1, hkw2⟩ hcurve hidle
  have hrefused {x : Answer}
      (h : firstFailing (setChecks (plainSetFields tag node kw c0 c1 c2 c3 c4 idle) u) = some x) :
      Answers (.enrol src) s a (refuse x u) := enrolSet_refused enrolRefusal_plainSet h ▸ hex
  have hdup : (u.bucket tag).all (fun n => decide ((u.setRec n).tag ≠ tag)) = true
      ↔ ∀ n ∈ bucket, (u.setRec n).tag ≠ tag := by simp [bucket]
  refine ⟨fun ⟨n, hn, htag⟩ => hrefused ?_, fun hnew hfree => ?_⟩
  · have hheld := Bool.eq_false_iff.2 (fun h => hdup.1 h n hn htag)
    rw [hchecks, hheld]; rfl
  have hunnamed : u.sets.numWhere (fun r => decide (r.node = node)) = none :=
    Tbl.numWhere_eq_none (fun e he => decide_eq_false (hfree e he))
  rw [hdup.2 hnew, hunnamed] at hchecks
  refine ⟨fun hfull => hrefused ?_, fun hroom => ⟨fun hno => hrefused ?_, fun n hlow => ?_⟩⟩
  · rw [hchecks, decide_eq_false (Nat.not_lt.2 hfull)]; rfl
  · rw [hchecks, decide_eq_true hroom, hno]; rfl
  · have hpass : firstFailing (setChecks (plainSetFields tag node kw c0 c1 c2 c3 c4 idle) u) = none := by
      rw [hchecks, decide_eq_true hroom, hlow]; rfl
    have hacc := enrolSet_accepted enrolRefusal_plainSet hpass
    rw [hacc, hlow, Option.getD_some, writeSet_plainSet] at hex
    exact hex

/-- Settles O31: a matched STATE is a change of op state of the set heard from, to its own op state in the report of
STARTING or COOLING. -/
theorem stateReport : Obligations.StateReport := by
  intro s u slot node tag op hrep
  rw [exec_state_of_reports hrep]
  refine ⟨fun h => ?_, ?_⟩
  · have hnone : u.setReporting node tag = none := Tbl.numWhere_eq_none (fun e he => decide_eq_false (h e he))
    rw [takeState_unmatched op hnone]
  intro n r hn hr new
  have hnew : reportedOp (u.setRec n).op op = new := by
    rw [State.setRec_of_find hr]; cases op <;> rfl
  have hset := heardFrom_set? hr
  rw [takeState_matched op hn, hnew]
  have h := changeOp_enters hset new
  refine ⟨fun hsame => ?_, _, rfl, h.silent_eq, h.silentCount_eq, h.op_eq, h.deadline_of_leaves, fun m hm => ?_,
    h.accounts_eq, h.zones_eq, h.nodes_eq, h.clock_eq⟩
  · rw [changeOp_same (by rw [State.setRec_of_find hset]; exact hsame.symm)]; rfl
  · rw [h.others m hm, State.heardFrom, State.setRec_updSet_ne hm]

/-- Settles O32: the order's purpose names its outcome, and the set's op state what an acceptance does; a set that
no bus concerns keeps the deadline its cooling was given, since nothing is handed on to a bus. -/
theorem orderResult : Obligations.OrderResult := by
  intro s u slot node n serial ok e r hrep hr hserial
  subst hserial
  rw [exec_result_of_replies hrep]
  refine ⟨fun hp => ?_, fun hp => ?_, fun hp => by rw [hp]; rfl⟩
  · have hout : resultFor e.id e.purpose ok none u = coolOutcome n r.serial (orderOutcome ok) u := by rw [hp]; rfl
    rw [hout]
    cases ok with
    | false => exact ⟨nofun, nofun, fun _ => congrArg _ (coolOutcome_refused hr)⟩
    | true =>
      rw [orderOutcome, if_pos rfl, coolOutcome_accepted hr]
      refine ⟨fun _ hop hs hch hsup => ⟨_, rfl, coolAccepted_cools hr hop hs hch hsup⟩,
        fun _ hop hn => ?_, fun h => ?_⟩
      · rw [coolAccepted_needed hr hop hn]
      · rw [coolAccepted_not_running hr (h.resolve_left (by decide))]
  · have hout : resultFor e.id e.purpose ok none u = stopOutcome n r.serial (orderOutcome ok) u := by rw [hp]; rfl
    rw [hout]
    cases ok with
    | false => exact ⟨nofun, fun _ => congrArg _ (stopOutcome_refused hr)⟩
    | true =>
      rw [orderOutcome, if_pos rfl, stopOutcome_accepted hr]
      refine ⟨fun _ hop => ?_, fun h => ?_⟩
      · have hent := changeOp_enters hr .stopped
        rw [if_pos (OpState.burns_iff.2 hop)]
        exact ⟨_, rfl, hent.op_eq, fun hc => hent.deadline_of_leaves hc (by decide), hent.others,
          hent.accounts_eq⟩
      · have hburns : ¬ r.op.burns = true := by
          rcases h.resolve_left (by decide) with h | h <;> rw [h] <;> decide
        rw [if_neg hburns]

/-- Settles O33, by the equations of the cool-down deadline and of an ORDER that finds room. -/
theorem coolDownDeadline : Obligations.CoolDownDeadline := by
  intro s n hres
  rw [exec_coolDownDeadline hres]
  refine ⟨?_, fun h => by rw [coolDownEnds_of_not_reached h]⟩
  intro d r hr hd hle hroom stop
  have hrec : (s.setRec n).coolDeadline = some d := (State.setRec_of_find hr).symm ▸ hd
  rw [coolDownEnds_of_reached hrec hle, sendStop, State.setRec_updSet_self hr,
    sendOrder_of_room (s := s.updSet n _) hroom]
  rfl

/-- Settles O34, by the equations of the minute tick and of the period's match. -/
theorem minuteTick : Obligations.MinuteTick := by
  intro s hres counted count
  have hcounted : countMinutes 1 (s.setMinutesTaken (s.minutesTaken + 1)) = counted := by
    simp only [countMinutes, Tbl.updAll, SetRec.addMinutes_one]; rfl
  rw [exec_minuteTick hres]
  refine ⟨fun h => by rw [minuteTick_of_none h], fun h => ?_⟩
  rw [minuteTick_of_waiting h, hcounted]
  refine ⟨fun hlt => ?_, fun hle hc => ?_, fun hle hc => ?_⟩
  · rw [addPeriodMinutes_below (s := counted) hlt]; rfl
  · rw [addPeriodMinutes_matched (s := counted) hle]; exact congrArg _ (if_neg hc)
  · rw [addPeriodMinutes_matched (s := counted) hle]; exact congrArg _ (if_pos hc)

/-- Settles O3: both contexts hold the IDLE values, and every other clause is read off the reset state. -/
theorem coldStartRecords : Obligations.ColdStartRecords := by
  refine ⟨rfl, rfl, rfl, rfl, rfl, rfl, rfl, rfl, fun n => ?_, rfl, rfl, rfl, rfl, rfl, rfl, rfl⟩
  have h : State.reset.ctx n = {} := by unfold State.ctx; split <;> rfl
  rw [h]
  decide

end Sys2Proof.Proofs

/-! ## SUPPORT. The curve, the smoothed rate and the burn of one set (R28 to R32) -/

namespace Sys2Proof.Machine

/-! ## Quotients truncated toward zero -/

/-- Truncated toward zero, a quotient never lies below a dividend of 0 or less. -/
theorem le_mul_tdiv_of_nonpos {a : Int} (h : a ≤ 0) (d : Int) : a ≤ d * a.tdiv d := by
  have := Int.mul_tdiv_self_le (x := -a) (k := d) (by omega)
  rw [Int.neg_tdiv, Int.mul_neg] at this
  omega

/-- A start of 0 or more that moves by a truncated quotient stays at 0 or more when the whole way ends there. -/
theorem add_tdiv_nonneg {start way d : Int} (hd : 0 < d) (hs : 0 ≤ start) (hend : 0 ≤ d * start + way) :
    0 ≤ start + way.tdiv d := by
  rcases le_total 0 way with h | h
  · exact Int.add_nonneg hs (Int.tdiv_nonneg h hd.le)
  · have hle := le_mul_tdiv_of_nonpos h d
    have hmul : 0 ≤ d * (start + way.tdiv d) := by rw [Int.mul_add]; omega
    exact nonneg_of_mul_nonneg_right hmul hd

/-! ## The curve (R29) -/

theorem Curve.sfc_of_full (c : Curve) {l : Nat} (h : 1000 ≤ l) : c.sfc l = c.s4 := if_pos h

/-- The way from curve point `k` at load fraction `l`, in 250ths. -/
def Curve.way (c : Curve) (k l : Nat) : Int := ((c.point (k + 1) : Int) - c.point k) * ((l : Int) - 250 * k)

/-- The straight line between two curve points stays at 0 or more. -/
theorem Curve.line_nonneg (c : Curve) (l : Nat) : 0 ≤ 250 * (c.point (l / 250) : Int) + c.way (l / 250) l := by
  have h0 : 0 ≤ (l : Int) - 250 * (l / 250 : Nat) := by omega
  have h1 : 0 ≤ 250 - ((l : Int) - 250 * (l / 250 : Nat)) := by omega
  have hmix : 250 * (c.point (l / 250) : Int) + c.way (l / 250) l
      = c.point (l / 250) * (250 - ((l : Int) - 250 * (l / 250 : Nat)))
        + c.point (l / 250 + 1) * ((l : Int) - 250 * (l / 250 : Nat)) := by
    unfold Curve.way; ring
  rw [hmix]
  positivity

theorem Curve.sfc_of_below (c : Curve) {l : Nat} (h : l < 1000) :
    (c.sfc l : Int) = c.point (l / 250) + (c.way (l / 250) l).tdiv 250 := by
  rw [Curve.sfc, if_neg (Nat.not_le.2 h)]
  exact Int.toNat_of_nonneg (add_tdiv_nonneg (by decide) (Int.natCast_nonneg _) (c.line_nonneg l))

/-- The way is toward the higher of the two points. -/
theorem Curve.way_nonneg {c : Curve} {l : Nat} (h : c.point (l / 250) ≤ c.point (l / 250 + 1)) :
    0 ≤ c.way (l / 250) l := mul_nonneg (by omega) (by omega)

theorem Curve.way_nonpos {c : Curve} {l : Nat} (h : c.point (l / 250 + 1) ≤ c.point (l / 250)) :
    c.way (l / 250) l ≤ 0 := mul_nonpos_of_nonpos_of_nonneg (by omega) (by omega)

/-! ## The recent rate (R31) -/

theorem smoothRate_le (old inst : Nat) : smoothRate old inst ≤ 4294967295 := inRateRange_le _

/-- In its range the rate is the old one moved by a quarter of the distance. -/
theorem smoothRate_of_le {old inst : Nat} (h : (old : Int) + Int.tdiv ((inst : Int) - old) 4 ≤ 4294967295) :
    (smoothRate old inst : Int) = old + Int.tdiv ((inst : Int) - old) 4 := by
  have hpos : 0 ≤ (old : Int) + Int.tdiv ((inst : Int) - old) 4 :=
    add_tdiv_nonneg (by decide) (by omega) (by omega)
  rw [smoothRate, inRateRange_of_le (by omega), Int.toNat_of_nonneg hpos]

/-! ## The figures of one estimate (R28, R30) -/

/-- The idle burn of `dt` seconds (R30). -/
theorem SetRec.burn_idleBurn (r : SetRec) (dt : Nat) : (r.burn dt).idleBurn =
    if r.op = .starting ∨ r.op = .running ∨ r.op = .cooling then r.noLoad * dt * 5 / 18 else 0 := by
  simp only [SetRec.burn, OpState.burns_iff]

/-- The whole millilitres and the new residue make up the old residue and both burns. -/
theorem SetRec.burn_total (r : SetRec) (dt : Nat) :
    1000 * (r.burn dt).whole + (r.burn dt).residue = r.residue + (r.burn dt).loadBurn + (r.burn dt).idleBurn :=
  Nat.div_add_mod _ _

theorem SetRec.burn_residue_lt (r : SetRec) (dt : Nat) : (r.burn dt).residue < 1000 := Nat.mod_lt _ (by decide)

/-! ## What writes one tank -/

/-- `t` is `s` with record `n` of the tanks changed by `f`, and notices raised. -/
structure TankWritten (n : Nat) (f : TankRec → TankRec) (s t : State) : Prop where
  rest : ∃ tanks port, t = { s with tanks, port }
  reads : ∀ m, t.tank? m = if m = n then (s.tank? m).map f else s.tank? m

section
variable {n : Nat} {f g : TankRec → TankRec} {s t u : State}

theorem TankWritten.trans (h : TankWritten n f s t) (h' : TankWritten n g t u) : TankWritten n (g ∘ f) s u := by
  obtain ⟨⟨tanks, port, rfl⟩, hreads⟩ := h
  obtain ⟨⟨tanks', port', rfl⟩, hreads'⟩ := h'
  refine ⟨⟨tanks', port', rfl⟩, fun m => ?_⟩
  rw [hreads', hreads]
  split
  · exact Option.map_map ..
  · rfl

theorem TankWritten.congr (h : TankWritten n f s t) (hfg : ∀ r, s.tank? n = some r → f r = g r) :
    TankWritten n g s t := by
  refine ⟨h.rest, fun m => ?_⟩
  rw [h.reads]
  split
  next hm => subst hm; exact Option.map_congr (fun r hr => hfg r hr)
  next => rfl

theorem TankWritten.self (h : TankWritten n f s t) {r : TankRec} (hr : s.tank? n = some r) :
    t.tank? n = some (f r) := by rw [h.reads, if_pos rfl, hr]; rfl

theorem TankWritten.others (h : TankWritten n f s t) {m : Nat} (hm : m ≠ n) : t.tank? m = s.tank? m := by
  rw [h.reads, if_neg hm]

theorem State.tankRec_of_find {r : TankRec} (h : s.tank? n = some r) : s.tankRec n = r := by
  rw [State.tankRec, h]; rfl

theorem updTank_written (n : Nat) (f : TankRec → TankRec) (s : State) : TankWritten n f s (s.updTank n f) :=
  ⟨⟨_, _, rfl⟩, fun m => State.tank?_updTank s n m f⟩

/-- What writes no tank may be read as writing one with its own record. -/
theorem TankWritten.of_port (n : Nat) {s t : State} (h : ∃ port, t = { s with port }) : TankWritten n id s t := by
  obtain ⟨port, rfl⟩ := h
  exact ⟨⟨_, _, rfl⟩, fun m => by rw [Option.map_id, id, ite_self]; rfl⟩

theorem raiseIfDry_port (tank before : Nat) (s : State) : ∃ port, raiseIfDry tank before s = { s with port } := by
  unfold raiseIfDry; split <;> exact ⟨_, rfl⟩

/-- Fuel burnt writes the tank it is taken from (R32). -/
theorem burnFromTank_written (n ml : Nat) (s : State) :
    TankWritten n (TankRec.takeFuel ml) s (burnFromTank n ml s) :=
  (updTank_written n _ s).trans (TankWritten.of_port n (raiseIfDry_port n _ _))

end

/-- Burnt fuel writes tanks and raises notices only, and of the tanks the one the set names (R32). -/
theorem burnFromSupply_rest (tank : Option Nat) (ml : Nat) (s : State) :
    ∃ tanks port, burnFromSupply tank ml s = { s with tanks, port } := by
  cases tank with
  | none => exact ⟨_, _, rfl⟩
  | some n => exact (burnFromTank_written n ml s).rest

theorem burnFromSupply_ne {tank : Option Nat} {k : Nat} (h : tank ≠ some k) (ml : Nat) (s : State) :
    (burnFromSupply tank ml s).tank? k = s.tank? k := by
  cases tank with
  | none => rfl
  | some n => exact (burnFromTank_written n ml s).others (fun hk => h (hk ▸ rfl))

/-! ## The estimate of one set (R27, R28) -/

section
variable {s : State} {n : Nat} {r : SetRec} (hr : s.set? n = some r)
include hr

/-- No second has passed since the last estimate, and this one is deferred (R27). -/
theorem estimateSet_deferred (h : s.clock - r.lastEstimate = 0) : estimateSet n s = s := by
  simp only [estimateSet, hr, h, if_true]

/-- The set's own fields are written, OVERLOAD is raised at most, and the burnt fuel taken from its tank. -/
theorem estimateSet_of_elapsed (h : 0 < s.clock - r.lastEstimate) :
    let b := r.burn (s.clock - r.lastEstimate)
    ∃ port, estimateSet n s =
      burnFromSupply r.tank b.whole { s.updSet n (SetRec.afterBurn b s.clock) with port } := by
  simp only [estimateSet, hr, if_neg (Nat.ne_of_gt h)]
  split <;> exact ⟨_, rfl⟩

end

end Sys2Proof.Machine

/-! ## SUPPORT. Endurance, the low mark, gauge reconciliations and dips (R35 to R41) -/

namespace Sys2Proof.Machine

/-! ## The low mark (R41) -/

section
variable {s : State} {n : Nat} {r : TankRec} (hr : s.tank? n = some r)
include hr

theorem evalLowMark_of_low (hm : r.lowMark = false) (h : r.endurance < r.lowThreshold) :
    evalLowMark n s = raise .lowFuel .tanks n (some r.endurance)
      (s.updTank n (fun x => { x with lowMark := true })) := by
  simp [evalLowMark, hr, hm, h]

theorem evalLowMark_of_recovered (hm : r.lowMark = true) (h : r.lowThreshold + 30 ≤ r.endurance) :
    evalLowMark n s = s.updTank n (fun x => { x with lowMark := false }) := by
  simp [evalLowMark, hr, hm, h]

theorem evalLowMark_of_between (h : (r.lowMark = false ∧ r.lowThreshold ≤ r.endurance)
    ∨ (r.lowMark = true ∧ r.endurance < r.lowThreshold + 30)) : evalLowMark n s = s := by
  rcases h with ⟨hm, h⟩ | ⟨hm, h⟩ <;> simp [evalLowMark, hr, hm, Nat.not_lt.2, Nat.not_le.2, h]

end

/-- A notice of a coalescing kind changes nothing while one of its kind and subject waits (R196). -/
theorem raise_coalesced {kind : NoticeKind} {table : TableId} {n : Nat} {s : State} (hk : kind.coalesces = true)
    (h : ∃ m ∈ s.port.notices, m.kind = kind ∧ m.table = table ∧ m.index = n) (v : Option Nat) :
    raise kind table n v s = s := by
  obtain ⟨m, hm, rfl, rfl, rfl⟩ := h
  have hany : s.port.notices.any (Notice.sameSubject ⟨m.kind, m.table, m.index, v, s.clock⟩) = true :=
    List.any_eq_true.2 ⟨m, hm, by simp [Notice.sameSubject]⟩
  rw [raise, State.onPort, Port.append, if_pos (by rw [hk, hany]; rfl)]

/-- Evaluating the low mark writes that mark of its tank and no other field (R41). -/
theorem evalLowMark_written (n : Nat) (s : State) :
    ∃ b, TankWritten n (fun r => { r with lowMark := b }) s (evalLowMark n s) := by
  have kept : TankWritten n (fun r => { r with lowMark := (s.tankRec n).lowMark }) s s :=
    (TankWritten.of_port n ⟨_, rfl⟩).congr (fun r hr => by rw [State.tankRec_of_find hr]; rfl)
  unfold evalLowMark
  split
  · exact ⟨_, kept⟩
  · split_ifs
    · exact ⟨true, (updTank_written n _ s).trans (TankWritten.of_port n ⟨_, rfl⟩)⟩
    · exact ⟨false, updTank_written n _ s⟩
    · exact ⟨_, kept⟩

/-! ## Endurance (R39, R40) -/

/-- Recomputing a tank writes its endurance and its low mark (R40). -/
theorem recomputeTank_written (n : Nat) (s : State) :
    ∃ b, TankWritten n (fun r => { r with endurance := enduranceOf r.level (s.tankRate n), lowMark := b }) s
      (recomputeTank n s) := by
  obtain ⟨b, hb⟩ := evalLowMark_written n
    (s.updTank n (fun t => { t with endurance := enduranceOf t.level (s.tankRate n) }))
  exact ⟨b, (updTank_written n _ s).trans hb⟩

/-! ## PENDING changeovers evaluated (R89) -/

/-- The state without what the evaluation of PENDING changeovers may write: the buses, the deliveries, the line and
the frame ids. -/
def State.besideTransfer (s : State) : State :=
  { s with nextId := 0, buses := [], ctx1 := {}, ctx2 := {}, line := {} }

section
variable (s : State) (n bus set : Nat)

@[simp] theorem State.updBus_beside (f : BusRec → BusRec) :
    (s.updBus n f).besideTransfer = s.besideTransfer := rfl
@[simp] theorem State.updCtx_beside (f : Ctx → Ctx) : (s.updCtx n f).besideTransfer = s.besideTransfer := by
  unfold State.updCtx; split <;> rfl
@[simp] theorem orderBowser_beside (k : Nat) (p : Purpose) :
    (orderBowser n k p s).besideTransfer = s.besideTransfer := rfl
@[simp] theorem suspendFlow_beside : (suspendFlow n s).besideTransfer = s.besideTransfer := by
  simp [suspendFlow]
@[simp] theorem placeChangeover_beside : (placeChangeover n s).besideTransfer = s.besideTransfer := by
  unfold placeChangeover; dsimp only; split <;> simp
@[simp] theorem switchingBegins_beside (sets : List Nat) :
    (switchingBegins sets s).besideTransfer = s.besideTransfer :=
  forEach_same State.besideTransfer _ (fun n t => by split <;> simp) _ s
@[simp] theorem orderPanel_beside (k : Nat) : (orderPanel bus k set s).besideTransfer = s.besideTransfer := rfl
@[simp] theorem orderSync_beside : (orderSync bus set s).besideTransfer = s.besideTransfer := rfl
@[simp] theorem enterPhase_beside (st : BusState) (k : Nat) :
    (enterPhase bus st k s).besideTransfer = s.besideTransfer := rfl
@[simp] theorem enterDead_beside : (enterDead bus set s).besideTransfer = s.besideTransfer := rfl
@[simp] theorem leavePending_beside : (leavePending bus s).besideTransfer = s.besideTransfer := by
  unfold leavePending; dsimp only
  rw [switchingBegins_beside]
  split <;> simp
@[simp] theorem evaluatePending_beside : (evaluatePending bus s).besideTransfer = s.besideTransfer := by
  unfold evaluatePending; split <;> simp
@[simp] theorem evaluateForTank_beside : (evaluateForTank n s).besideTransfer = s.besideTransfer :=
  forEach_same State.besideTransfer _ (fun b t => by split <;> simp) _ s

end

/-- What does not read the buses, deliveries, line and frame ids is the same in both states. -/
theorem same_of_beside {γ : Type} {s t : State} (h : t.besideTransfer = s.besideTransfer) (view : State → γ)
    (hview : ∀ u : State, view u.besideTransfer = view u) : view t = view s := by
  rw [← hview t, h, hview s]

/-- With no bus in PENDING no changeover moves on (R89). -/
theorem movesOn_of_none_pending {s : State} (h : ∀ e ∈ s.buses, e.2.state ≠ .pending) (bus : Nat) :
    s.movesOn bus = false := by
  have hstate : (s.busRec bus).state ≠ .pending := by
    rw [State.busRec]
    cases hb : s.bus? bus with
    | none => decide
    | some r => exact h (bus, r) (Tbl.mem_of_find hb)
  unfold State.movesOn
  dsimp only
  split
  · rfl
  · simp [hstate]

theorem evaluateForTank_of_none_pending {s : State} (h : ∀ e ∈ s.buses, e.2.state ≠ .pending) (tank : Nat) :
    evaluateForTank tank s = s := by
  refine forEach_induct (fun t => t = s) _ _ (fun b _ t ht => ?_) s rfl
  subst ht
  split
  · rw [evaluatePending, movesOn_of_none_pending h]; rfl
  · rfl

/-! ## Gauge reconciliations (R36) -/

/-- What a reconciliation of tank `n` writes to the tanks, before the PENDING changeovers are evaluated. -/
def reconcileLevel (n reading : Nat) (s : State) : State :=
  recomputeTank n (raiseIfDry n (s.tankRec n).level (s.updTank n (TankRec.reconciled reading s.clock)))

theorem reconcileTank_eq (n reading : Nat) (s : State) :
    reconcileTank n reading s = evaluateForTank n (reconcileLevel n reading s) := rfl

/-- R of a tank is read from the sets alone (R39). -/
theorem tankRate_congr {s t : State} (h : t.sets = s.sets) (n : Nat) : t.tankRate n = s.tankRate n := by
  rw [State.tankRate, h]; rfl

/-- A reconciliation writes the fields of R36 and then the endurance and the low mark. -/
theorem reconcileLevel_written (n reading : Nat) (s : State) :
    ∃ b, TankWritten n (fun r => { r.reconciled reading s.clock with
        endurance := enduranceOf (min reading r.capacity) (s.tankRate n), lowMark := b }) s
      (reconcileLevel n reading s) := by
  have hlevel := (updTank_written n (TankRec.reconciled reading s.clock) s).trans
    (TankWritten.of_port n (raiseIfDry_port n (s.tankRec n).level _))
  obtain ⟨b, hb⟩ := recomputeTank_written n
    (raiseIfDry n (s.tankRec n).level (s.updTank n (TankRec.reconciled reading s.clock)))
  obtain ⟨tanks, port, hrest⟩ := hlevel.rest
  rw [tankRate_congr (s := s) (by rw [hrest])] at hb
  exact ⟨b, hlevel.trans hb⟩

/-! ## LEVEL (R35) -/

/-- Every 4-byte value of a payload lies in the range of 32 bits. -/
theorem words_le {bs : List Byte} {vs : List Nat} (h : words bs = some vs) : ∀ v ∈ vs, v ≤ 4294967295 := by
  induction bs using words.induct generalizing vs with
  | case1 => cases h; simp
  | case2 a b c d t ih =>
    obtain ⟨ws, hws, rfl⟩ := Option.map_eq_some_iff.1 h
    rintro v (_ | ⟨_, hv⟩)
    · have := a.isLt; have := b.isLt; have := c.isLt; have := d.isLt
      simp only [beNat, List.foldl]
      omega
    · exact ih hws v hv
  | case3 | case4 | case5 => cases h

theorem stateMessage_ne_level (bs : List Byte) (ml : Nat) : stateMessage bs ≠ .level ml := by
  unfold stateMessage
  split
  next tag op _ => cases OpState.ofCode op <;> nofun
  next => nofun

theorem syncOkMessage_ne_level (bs : List Byte) (ml : Nat) : syncOkMessage bs ≠ .level ml := by
  unfold syncOkMessage; split <;> nofun

theorem inputsMessage_ne_level (bs : List Byte) (ml : Nat) : inputsMessage bs ≠ .level ml := by
  unfold inputsMessage; cases panelInputs bs <;> nofun

/-- A single 4-byte value reads as a LEVEL only where the kind makes it one. -/
theorem oneWord_ne_level {f : Nat → Message} {ml : Nat} (hf : ∀ v, f v ≠ .level ml) (bs : List Byte) :
    oneWord bs f ≠ .level ml := by
  unfold oneWord
  split
  next v _ => exact hf v
  next => nofun

theorem readingMessage_ne_level (bs : List Byte) (ml : Nat) : readingMessage bs ≠ .level ml :=
  oneWord_ne_level (fun v => by split <;> nofun) bs

theorem acceptMessage_ne_level {f : Bool → Option Nat → Message} {ml : Nat} (hf : ∀ b m, f b m ≠ .level ml)
    (bs : List Byte) (needs : Bool) : acceptMessage bs needs f ≠ .level ml := by
  unfold acceptMessage
  split
  next acc _ =>
    split
    · split
      · nofun
      · exact hf true none
    · exact hf false none
    · nofun
  next acc meter _ =>
    cases markOf acc with
    | none => nofun
    | some b => exact hf b (some meter)
  next => nofun

/-- A frame says LEVEL only by its kind (R187). -/
theorem levelMessage_of_message {f : InFrame} {c : Option Exchange} {ml : Nat} (h : f.message c = .level ml) :
    levelMessage f.payload = .level ml := by
  unfold InFrame.message at h
  split at h
  next => cases h
  next => cases hk : ReqKind.ofCode f.kind <;> rw [hk] at h <;> cases h
  next =>
    split_ifs at h
    exacts [absurd h (stateMessage_ne_level _ _), absurd h (syncOkMessage_ne_level _ _),
      absurd h (inputsMessage_ne_level _ _), h,
      absurd h (oneWord_ne_level (f := .bowserMeter) nofun _), absurd h (oneWord_ne_level (f := .hoseDone) nofun _)]
  next =>
    split_ifs at h
    exacts [absurd h (stateMessage_ne_level _ _), absurd h (syncOkMessage_ne_level _ _),
      absurd h (inputsMessage_ne_level _ _), h, absurd h (readingMessage_ne_level _ _),
      absurd h (acceptMessage_ne_level (f := .result) nofun _ _),
      absurd h (acceptMessage_ne_level (f := .valveShut) nofun _ _)]

theorem le_of_levelMessage {bs : List Byte} {ml : Nat} (h : levelMessage bs = .level ml) : ml ≤ 4294967295 := by
  unfold levelMessage oneWord at h
  split at h
  next v hv => cases h; exact words_le hv ml (by simp)
  next => cases h

/-- An unprompted LEVEL is a reading of the tank whose gauge node is its source (R35). -/
theorem exec_level_of_reports {s u : State} {slot node ml : Nat} (h : Reports s slot node (.level ml) u) :
    exec (.level slot) s = .next ((u.gaugedBy node).elim u (fun n => gaugeReading n ml u)) := by
  obtain ⟨t, hsource, hcloses, -, heq⟩ := dispatchSlot_of_reports (act := dispatchLevel)
    (mine := fun m => match m with | .level _ => true | _ => false) h rfl
  refine (congrArg Host.Outcome.next heq).trans ?_
  have htank : levelTank t u = u.gaugedBy node := by
    rw [levelTank, Slot.answers_none hcloses, hsource]
  simp only [dispatchLevel, wrongKind_of_reports hcloses, htank]
  cases u.gaugedBy node <;> rfl

theorem gaugeReading_of_filling {n : Nat} {s : State} (h : (s.tankRec n).filling = true) (reading : Nat) :
    gaugeReading n reading s = s.updTank n (fun t => { t with gaugeDeferred := true }) := if_pos h

theorem gaugeReading_of_not_filling {n : Nat} {s : State} (h : (s.tankRec n).filling = false) (reading : Nat) :
    gaugeReading n reading s = reconcileTank n reading s := if_neg (by rw [h]; decide)

/-! ## DIP_ENTRY (R38) -/

section
variable {s u : State} {src : Source} {a : Asked} {n level : Nat} {r : TankRec}

/-- Ring 0 or the tank's code gives the right on a tank (R171, R172). -/
theorem mayReach_tank (hr : u.tank? n = some r) (need : Need) :
    a.mayReach .tanks n need u = true ↔ a.allowed r.code need := by
  simp [Asked.mayReach, Asked.allowed, State.codeOf, State.tankRec_of_find hr]

section
variable (hp : Presents s .dipEntry src a u) (hn : a.names .tanks n)
include hp hn

/-- A DIP_ENTRY that names a record of the tanks comes to checks 5 to 7 of R174 (R38). -/
theorem exec_dipEntry : Answers (.dipEntry src) s a (onRecord a .tanks .request (dipOwn a) u) := by
  have hm : a.req.matched .dipEntry = true := hn.matched rfl (by decide) (by decide)
  unfold Answers
  rw [exec, execDipEntry, runRequest_of_presents _ hp, hm]
  rfl

theorem dipEntry_not_allowed (hr : u.tank? n = some r) (h : ¬ a.allowed r.code .request) :
    Answers (.dipEntry src) s a (refuse .notPermitted u) := by
  have hright := Bool.eq_false_iff.2 (fun hm => h ((mayReach_tank hr .request).1 hm))
  have hans := exec_dipEntry hp hn
  rwa [onRecord_noRight hn (by rw [State.holds, hr]; rfl) hright] at hans

theorem dipEntry_allowed (hr : u.tank? n = some r) (h : a.allowed r.code .request) :
    Answers (.dipEntry src) s a (dipOwn a n u) := by
  have hans := exec_dipEntry hp hn
  rwa [onRecord_of_names hn (by rw [State.holds, hr]; rfl) ((mayReach_tank hr .request).2 h)] at hans

end

section
variable (hf : a.req.fields = [(1, level)]) (hr : u.tank? n = some r)
include hf hr

/-- With the level given alone the checks left are the filling mark and the capacity (R38). -/
theorem dipOwn_of_level : dipOwn a n u =
    if r.filling then refuse .tankBusy u
    else if r.capacity < level then refuse .outOfRange u
    else accept .done .tanks n (reconcileTank n level u) := by
  have hget : a.params.get 1 = some level := by rw [Asked.params, hf]; rfl
  have hok : a.params.paramsOk 1 = true := by
    rw [Asked.params, hf]; simp [Fields.paramsOk, Fields.repeats, inRange]
  unfold dipOwn
  rw [hget, State.tankRec_of_find hr, hok]
  cases hfill : r.filling with
  | true => rfl
  | false =>
    by_cases hcap : r.capacity < level
    · simp [firstFailing_cons, hcap, Nat.not_le.2 hcap]
    · simp [firstFailing_cons, hcap, Nat.not_lt.1 hcap]

end

end

end Sys2Proof.Machine

/-! ## The statements of the tanks and the fuel estimate, settled -/

namespace Sys2Proof.Proofs

open Sys2Proof.Machine

/-- Settles O35: below full load the way between two points is toward the higher of them, and truncation toward zero
keeps the value on the side of the point it starts from. -/
theorem curveValue : Obligations.CurveValue := by
  intro c l pt k product
  have hpt : ∀ i, pt i = c.point i := by rintro (_ | _ | _ | _ | _) <;> rfl
  have hway : product = c.way k l := by simp only [product, hpt]; rfl
  refine ⟨c.sfc_of_full, fun hl => ?_⟩
  have hsfc : (c.sfc l : Int) = c.point k + (c.way k l).tdiv 250 := c.sfc_of_below hl
  rw [hpt, hpt, hway, hsfc]
  refine ⟨rfl, fun hfall => ?_, fun hrise => ?_⟩
  · have : c.way k l ≤ 250 * (c.way k l).tdiv 250 :=
      le_mul_tdiv_of_nonpos (c.way_nonpos (Int.ofNat_le.1 hfall)) 250
    omega
  · have : 250 * (c.way k l).tdiv 250 ≤ c.way k l := Int.mul_tdiv_self_le (c.way_nonneg (Int.ofNat_le.1 hrise))
    omega

/-- Settles O36: the set's record is what its burn writes, and the tanks are left to the taking of the burnt fuel. -/
theorem burnEstimate : Obligations.BurnEstimate := by
  intro s n r hr _ dt t x whole
  refine ⟨estimateSet_deferred hr, fun hdt => ?_⟩
  obtain ⟨port, ht⟩ : ∃ port, t = burnFromSupply r.tank (r.burn dt).whole
      { s.updSet n (SetRec.afterBurn (r.burn dt) s.clock) with port } := estimateSet_of_elapsed hr hdt
  obtain ⟨tanks', port', hrest⟩ : ∃ tanks port, t =
      { s.updSet n (SetRec.afterBurn (r.burn dt) s.clock) with tanks, port } := by
    rw [ht]; exact burnFromSupply_rest ..
  have hx : x = r.afterBurn (r.burn dt) s.clock := by
    simp only [x]
    rw [hrest]
    exact State.setRec_updSet_self hr _
  have hwhole : whole = (r.burn dt).whole := by
    simp only [whole, hx]
    exact Nat.add_sub_cancel_left ..
  intro watts load idle
  have hidle : (r.burn dt).idleBurn = idle := r.burn_idleBurn dt
  rw [hwhole, hx]
  refine ⟨rfl, r.burn_residue_lt dt, hidle ▸ r.burn_total dt, rfl, rfl, ⟨fun hle => ?_, smoothRate_le _ _⟩, rfl,
    rfl, rfl, rfl, fun k tank hk htank => ?_, fun m hm => ?_, fun k hk => ?_, ?_, ?_, ?_⟩
  · rw [← hidle] at hle ⊢
    exact smoothRate_of_le hle
  · have hfind := (burnFromTank_written k (r.burn dt).whole
      { s.updSet n (SetRec.afterBurn (r.burn dt) s.clock) with port }).self htank
    have hrec : t.tankRec k = tank.takeFuel (r.burn dt).whole := by
      rw [ht, hk]
      exact State.tankRec_of_find hfind
    rw [hrec]
    exact ⟨rfl, rfl⟩
  · rw [hrest]
    exact (State.set?_updSet ..).trans (if_neg hm)
  · rw [ht]
    exact burnFromSupply_ne hk _ _
  all_goals rw [hrest]; rfl

/-- Settles O38: the reconciliation writes one tank, and what is then handed to the PENDING changeovers writes no
table but the buses. -/
theorem reconciled : Obligations.Reconciled := by
  intro s n reading r hr t x
  obtain ⟨b, hw⟩ := reconcileLevel_written n reading s
  have hbeside : t.besideTransfer = (reconcileLevel n reading s).besideTransfer := evaluateForTank_beside _ n
  have htanks : t.tanks = (reconcileLevel n reading s).tanks := same_of_beside hbeside State.tanks (fun _ => rfl)
  have hx := State.tankRec_of_find ((congrArg (Tbl.find · n) htanks).trans (hw.self hr))
  have hothers (m : Nat) (hm : m ≠ n) : t.tank? m = s.tank? m :=
    (congrArg (Tbl.find · m) htanks).trans (hw.others hm)
  obtain ⟨tanks, port, hrest⟩ := hw.rest
  rw [hrest] at hbeside
  have hsame {γ : Type} (view : State → γ) := same_of_beside hbeside view
  simp only [x, hx]
  refine ⟨rfl, rfl, decide_eq_true_iff, rfl, rfl, rfl, rfl, rfl, rfl, rfl, rfl, rfl, rfl, rfl, hothers,
    hsame State.sets (fun _ => rfl), hsame State.feeders (fun _ => rfl), hsame State.accounts (fun _ => rfl),
    hsame State.zones (fun _ => rfl), hsame State.nodes (fun _ => rfl), hsame State.site (fun _ => rfl),
    fun hno => ?_⟩
  have ht : t = { s with tanks, port } := by
    simp only [t]
    rw [reconcileTank_eq, hrest, evaluateForTank_of_none_pending (s := { s with tanks, port }) hno]
  rw [ht]
  exact ⟨rfl, rfl, rfl, rfl⟩

/-- Settles O39: a LEVEL carries one 4-byte value, and is a reading of the tank its source gauges. -/
theorem levelReport : Obligations.LevelReport := by
  refine ⟨fun f c ml h => le_of_levelMessage (levelMessage_of_message h), fun s u slot node ml hrep => ?_⟩
  rw [exec_level_of_reports hrep]
  refine ⟨fun hnone => ?_, fun n hn => ?_⟩
  · have hno : u.gaugedBy node = none := Tbl.numWhere_eq_none (fun e he => decide_eq_false (hnone e he))
    rw [hno]; rfl
  · have hgauged : u.gaugedBy node = some n := hn
    rw [hgauged]
    exact ⟨fun hfill => congrArg _ (gaugeReading_of_filling hfill ml),
      fun hfill => congrArg _ (gaugeReading_of_not_filling hfill ml)⟩

/-- Settles O40: past its right a DIP_ENTRY has the filling mark and the capacity to meet. -/
theorem dipEntry : Obligations.DipEntry := by
  intro s u src a n level r hp hn hf hr
  refine ⟨dipEntry_not_allowed hp hn hr, fun hallow => ?_⟩
  have hown := dipOwn_of_level hf hr
  have hans := dipEntry_allowed hp hn hr hallow
  refine ⟨fun hfill => ?_, fun hfill hcap => ?_, fun hfill hcap => ?_⟩
  · rw [hfill, if_pos rfl] at hown; exact hown ▸ hans
  · rw [hfill, if_neg Bool.false_ne_true, if_pos hcap] at hown; exact hown ▸ hans
  · rw [hfill, if_neg Bool.false_ne_true, if_neg (Nat.not_lt.2 hcap)] at hown; exact hown ▸ hans

/-- Settles O37, by the equations of the low mark and of a notice that coalesces. -/
theorem lowMark : Obligations.LowMark := fun _ _ _ hr =>
  ⟨evalLowMark_of_low hr, evalLowMark_of_recovered hr, evalLowMark_of_between hr,
    fun h v => raise_coalesced rfl h v⟩

end Sys2Proof.Proofs

/-! ## SUPPORT. RETIRE of a record, and of a zone (R48, R166) -/

namespace Sys2Proof.Machine

/-- A RETIRE at ring 0 that names a record not FREE comes to the checks of the record's own table (R166, R174). -/
theorem execRetire_of_names {s u : State} {src : Source} {a : Asked} {t : TableId} {n : Nat}
    (hp : Presents s .retire src a u) (hring : a.ring = 0) (hn : a.names t n) (ht : t ≠ .deliveries)
    (hheld : u.holds t n = true) : Answers (.retire src) s a (retireRecord t n u) := by
  have hmatched : a.req.matched .retire = true := hn.matched rfl (by decide) (by decide)
  obtain ⟨htable, -, rfl, hindex⟩ := hn
  have hadmits : ringAdmits .retire (TableId.ofCode a.req.table) a.ring = true := by
    simp [ringAdmits, htable, hring, ht]
  have hown : a.onTable retireTable u = retireRecord t a.req.index u := by
    simp only [Asked.onTable, htable, TableId.ofCode_code, retireTable, if_neg hindex, hheld, Bool.not_true,
      Bool.false_eq_true, if_false]
  unfold Answers
  rw [exec, execRetire, runRequest_of_presents _ hp, hmatched, hadmits, hown]
  rfl

/-- A listed zone record reads as it is listed. -/
theorem State.zoneRec_of_find {s : State} {n : Nat} {r : ZoneRec} (h : s.zone? n = some r) :
    s.zoneRec n = r := by
  rw [State.zoneRec, h]; rfl

/-- A zone made FREE is not listed, and every other zone reads as before. -/
theorem State.zone?_delZone (s : State) (n m : Nat) :
    (s.onZones (fun t => t.del n)).zone? m = if m = n then none else s.zone? m := Tbl.find_del ..

/-- A FREE zone reads as R45 gives it. -/
theorem State.zoneRec_of_free {s : State} {n : Nat} (h : s.zone? n = none) :
    s.zoneRec n = { tag := 0, code1 := .none, code3 := .none, showHold := false, busCount := 0 } := by
  rw [State.zoneRec, h]; rfl

/-- The one check of a zone's RETIRE is that it has no bus (R48). -/
theorem retireZone_of_find {s : State} {n : Nat} {r : ZoneRec} (hr : s.zone? n = some r) :
    retireZone n s =
      if r.busCount = 0 then retired .zones n (s.onZones (fun t => t.del n)) else refuse .inUse s := by
  unfold retireZone retireWith
  rw [State.zoneRec_of_find hr, firstFailing_cons]
  by_cases h : r.busCount = 0
  · rw [if_pos h, decide_eq_true h]; rfl
  · rw [if_neg h, decide_eq_false h]; rfl

end Sys2Proof.Machine

/-! ## The statement of the zones, settled -/

namespace Sys2Proof.Proofs

open Sys2Proof.Machine

/-- Settles O41: a RETIRE at ring 0 comes to the zone's own check, and its acceptance frees one record of one table. -/
theorem retireZone : Obligations.RetireZone := by
  intro s u src a n r hp hring hn hr
  have hans : Answers (.retire src) s a (Machine.retireZone n u) :=
    execRetire_of_names hp hring hn (by decide) (by rw [State.holds, hr]; rfl)
  rw [retireZone_of_find hr] at hans
  refine ⟨fun hbuses => by rwa [if_neg (Nat.ne_of_gt hbuses)] at hans, fun hnone => ?_⟩
  rw [if_pos hnone] at hans
  have hfree : (u.onZones (fun t => t.del n)).zone? n = none := by rw [State.zone?_delZone, if_pos rfl]
  exact ⟨_, hans, rfl, hfree, State.zoneRec_of_free hfree,
    fun m hm => by rw [State.zone?_delZone, if_neg hm]⟩

end Sys2Proof.Proofs

/-! ## SUPPORT. The split of a delta across the switch points (R76, R78) -/

namespace Sys2Proof.Machine

/-- Segments that rise from the start and end by `stop` are together no longer than the way to it. -/
theorem segments_sum_le {points : List SwitchPoint} {start stop : Nat} (hstart : start ≤ stop)
    (hrise : (start :: points.map SwitchPoint.time).Pairwise (· ≤ ·)) (hstop : ∀ p ∈ points, p.time ≤ stop) :
    ((segments start points).map Prod.snd).sum ≤ stop - start := by
  induction points generalizing start with
  | nil => exact Nat.zero_le _
  | cons p ps ih =>
    obtain ⟨hfrom, hrise⟩ := List.pairwise_cons.1 hrise
    have hp : start ≤ p.time := hfrom p.time List.mem_cons_self
    have hend : p.time ≤ stop := hstop p List.mem_cons_self
    have hrest := ih hend hrise (fun q hq => hstop q (List.mem_cons_of_mem p hq))
    simp only [segments, List.map_cons, List.sum_cons]
    omega

/-- Each segment runs from the time before its point to its point. -/
theorem segments_getElem? {points : List SwitchPoint} {start k : Nat} {p : SwitchPoint} {before : Nat}
    (hp : points[k]? = some p) (hb : (start :: points.map SwitchPoint.time)[k]? = some before) :
    (segments start points)[k]? = some (p.setBefore, p.time - before) := by
  induction points generalizing start k with
  | nil => cases hp
  | cons q ps ih =>
    cases k with
    | zero => cases hp; cases hb; rfl
    | succ k => exact ih hp hb

theorem segments_names (start : Nat) (points : List SwitchPoint) :
    (segments start points).map Prod.fst = points.map SwitchPoint.setBefore := by
  induction points generalizing start with
  | nil => rfl
  | cons p ps ih => exact congrArg (p.setBefore :: ·) (ih p.time)

/-- Floors of parts add up to no more than the floor of the whole. -/
theorem sum_mul_div_le (delta dt : Nat) (parts : List Nat) :
    (parts.map (fun x => delta * x / dt)).sum ≤ delta * parts.sum / dt := by
  induction parts with
  | nil => exact Nat.zero_le _
  | cons x xs ih =>
    rw [List.map_cons, List.sum_cons, List.sum_cons, Nat.mul_add]
    exact (Nat.add_le_add_left ih _).trans (Nat.div_add_div_le_add_div ..)

/-- The shares of the segments before the last. -/
def cutShares (delta dt start : Nat) (points : List SwitchPoint) : List (Option Nat × Nat) :=
  (segments start points).map (fun g => (g.1, delta * g.2 / dt))

theorem sharesOf_eq (delta dt start : Nat) (points : List SwitchPoint) (supplier : Option Nat) :
    sharesOf delta dt start points supplier = cutShares delta dt start points
      ++ [(supplier, delta - ((cutShares delta dt start points).map Prod.snd).sum)] := rfl

/-- With no point pending the whole delta is one share, of the present supplier. -/
theorem sharesOf_nil (delta dt start : Nat) (supplier : Option Nat) :
    sharesOf delta dt start [] supplier = [(supplier, delta)] := rfl

section
variable {dt start : Nat} {points : List SwitchPoint} (hdt : 0 < dt)
  (hrise : (start :: points.map SwitchPoint.time).Pairwise (· ≤ ·)) (hstop : ∀ p ∈ points, p.time ≤ start + dt)
include hdt hrise hstop

/-- The segments before the last take no more than the delta. -/
theorem cutShares_sum_le (delta : Nat) : ((cutShares delta dt start points).map Prod.snd).sum ≤ delta := by
  have hsum := segments_sum_le (Nat.le_add_right start dt) hrise hstop
  rw [Nat.add_sub_cancel_left] at hsum
  calc ((cutShares delta dt start points).map Prod.snd).sum
      = (((segments start points).map Prod.snd).map (fun x => delta * x / dt)).sum := by
        rw [cutShares, List.map_map, List.map_map]; rfl
    _ ≤ delta * ((segments start points).map Prod.snd).sum / dt := sum_mul_div_le ..
    _ ≤ delta * dt / dt := Nat.div_le_div_right (Nat.mul_le_mul_left delta hsum)
    _ = delta := Nat.mul_div_cancel delta hdt

/-- No energy is lost or made (R78). -/
theorem sharesOf_sum (delta : Nat) (supplier : Option Nat) :
    ((sharesOf delta dt start points supplier).map Prod.snd).sum = delta := by
  have hle := cutShares_sum_le hdt hrise hstop delta
  rw [sharesOf_eq, List.map_append, List.sum_append]
  simp only [List.map_cons, List.map_nil, List.sum_cons, List.sum_nil]
  omega

end

theorem sharesOf_names (delta dt start : Nat) (points : List SwitchPoint) (supplier : Option Nat) :
    (sharesOf delta dt start points supplier).map Prod.fst
      = points.map SwitchPoint.setBefore ++ [supplier] := by
  rw [sharesOf_eq, List.map_append, cutShares, List.map_map, ← segments_names start]; rfl

/-- A share before the last is that of its segment, floor. -/
theorem sharesOf_getElem? {points : List SwitchPoint} {start k before : Nat} {p : SwitchPoint}
    (hp : points[k]? = some p) (hb : (start :: points.map SwitchPoint.time)[k]? = some before)
    (delta dt : Nat) (supplier : Option Nat) :
    (sharesOf delta dt start points supplier)[k]? = some (p.setBefore, delta * (p.time - before) / dt) := by
  have hcut : (cutShares delta dt start points)[k]? = some (p.setBefore, delta * (p.time - before) / dt) := by
    rw [cutShares, List.getElem?_map, segments_getElem? hp hb]; rfl
  rw [sharesOf_eq, List.getElem?_append_left (List.getElem?_eq_some_iff.1 hcut).1, hcut]

/-! ## SUPPORT. Crediting a read (R79) -/

/-- The state without what a credit may write: the sets, the accounts, the site record and the notices. -/
def State.besideCredit (s : State) : State := { s with sets := [], accounts := [], site := {}, port := {} }

section
variable (account : Nat) (part : Option Nat × Nat) (s : State)

theorem creditPart_zero (i : Option Nat) : creditPart account (i, 0) s = s := by
  rw [creditPart, if_pos rfl]

variable {wh : Nat} (hwh : 0 < wh)
include hwh

/-- A part without a supplier goes to unsourced Wh. -/
theorem creditPart_unsourced : creditPart account (none, wh) s =
    (s.updAccount account (fun a => { a with periodWh := a.periodWh + wh, drawn := true })).onSite
      (fun p => { p with unsourced := p.unsourced + wh }) := if_neg (Nat.ne_of_gt hwh)

/-- A part of a set is credited to its record, and raises DRAW_POOLED at most. -/
theorem creditPart_set (i : Nat) : ∃ port, creditPart account (some i, wh) s =
    { (s.updAccount account (fun a => { a with periodWh := a.periodWh + wh, drawn := true })).updSet i
      (SetRec.credit account wh) with port } := by
  rw [creditPart, if_neg (Nat.ne_of_gt hwh)]
  dsimp only
  split <;> exact ⟨_, rfl⟩

end

section
variable (account : Nat) (part : Option Nat × Nat) (shares : List (Option Nat × Nat)) (s : State)

@[simp] theorem creditPart_beside : (creditPart account part s).besideCredit = s.besideCredit := by
  obtain ⟨_ | i, wh⟩ := part
  all_goals rcases Nat.eq_zero_or_pos wh with rfl | hwh
  · rw [creditPart_zero]
  · rw [creditPart_unsourced account s hwh]; rfl
  · rw [creditPart_zero]
  · obtain ⟨port, h⟩ := creditPart_set account s hwh i
    rw [h]; rfl

/-- A part above 0 writes the feeder's account (R79). -/
theorem creditPart_accounts {wh : Nat} (hwh : 0 < wh) (i : Option Nat) :
    (creditPart account (i, wh) s).accounts =
      s.accounts.upd account (fun a => { a with periodWh := a.periodWh + wh, drawn := true }) := by
  cases i with
  | none => rw [creditPart_unsourced account s hwh]; rfl
  | some i => obtain ⟨port, h⟩ := creditPart_set account s hwh i; rw [h]; rfl

theorem creditPart_account? : ((creditPart account part s).account? account).map AccountRec.periodWh
    = (s.account? account).map (fun x => x.periodWh + part.2) := by
  obtain ⟨i, wh⟩ := part
  rcases Nat.eq_zero_or_pos wh with rfl | hwh
  · rw [creditPart_zero]; rfl
  · rw [State.account?, creditPart_accounts account s hwh, Tbl.find_upd_self, Option.map_map]; rfl

theorem creditPart_account?_ne {m : Nat} (hm : m ≠ account) :
    (creditPart account part s).account? m = s.account? m := by
  obtain ⟨i, wh⟩ := part
  rcases Nat.eq_zero_or_pos wh with rfl | hwh
  · rw [creditPart_zero]
  · rw [State.account?, creditPart_accounts account s hwh, Tbl.find_upd_ne _ _ hm]; rfl

/-- Every part of a read adds to the period Wh of the feeder's account. -/
theorem creditShares_account? : ((forEach shares (creditPart account) s).account? account).map AccountRec.periodWh
    = (s.account? account).map (fun x => x.periodWh + (shares.map Prod.snd).sum) := by
  induction shares generalizing s with
  | nil => rfl
  | cons p ps ih =>
    have hp := creditPart_account? account p s
    rw [forEach_cons, ih, List.map_cons, List.sum_cons,
      show (fun x : AccountRec => x.periodWh + (p.2 + (ps.map Prod.snd).sum))
        = (· + (ps.map Prod.snd).sum) ∘ (fun x : AccountRec => x.periodWh + p.2) from
        funext (fun x => (Nat.add_assoc ..).symm), ← Option.map_map, ← hp, Option.map_map]
    rfl

end

end Sys2Proof.Machine

/-! ## SUPPORT. READING: the feeder written and what it hands to the credit (R69 to R73) -/

namespace Sys2Proof.Machine

theorem Tbl.upd_upd {α : Type} (t : Tbl α) (n : Nat) (f g : α → α) : (t.upd n f).upd n g = t.upd n (g ∘ f) := by
  simp only [Tbl.upd, List.map_map]
  congr 1
  funext e
  by_cases h : e.1 = n <;> simp [h]

theorem Tbl.upd_id {α : Type} (t : Tbl α) (n : Nat) : t.upd n id = t := by
  simp [Tbl.upd]

theorem State.updFeeder_updFeeder (s : State) (n : Nat) (f g : FeederRec → FeederRec) :
    (s.updFeeder n f).updFeeder n g = s.updFeeder n (g ∘ f) := by
  simp only [State.updFeeder, State.onFeeders, Tbl.upd_upd]

/-- A listed feeder record reads as it is listed. -/
theorem State.feederRec_of_find {s : State} {n : Nat} {r : FeederRec} (h : s.feeder? n = some r) :
    s.feederRec n = r := by
  rw [State.feederRec, h]; rfl

/-- What a delta above the limit does to the suspect mark (R71). -/
def FeederRec.suspectIf (b : Bool) (r : FeederRec) : FeederRec := { r with suspect := r.suspect || b }

theorem markSuspect_eq (n delta limit : Nat) (s : State) : ∃ port, markSuspect n delta limit s =
    { s.updFeeder n (FeederRec.suspectIf (decide (limit < delta))) with port } := by
  unfold markSuspect
  split
  next h =>
    have hset : FeederRec.suspectIf true = fun r => { r with suspect := true } :=
      funext (fun r => by simp [FeederRec.suspectIf])
    rw [decide_eq_true h, hset]
    exact ⟨_, rfl⟩
  next h =>
    have hid : FeederRec.suspectIf false = id := funext (fun r => by simp [FeederRec.suspectIf])
    rw [decide_eq_false h, hid, State.updFeeder, State.onFeeders, Tbl.upd_id]
    exact ⟨s.port, rfl⟩

/-- The delta of a reading, limited to what is plausible (R70, R71). -/
def FeederRec.usedDelta (count now : Nat) (r : FeederRec) : Nat :=
  min (meterDelta r.refReading count) (plausible r.rating (now - r.refTime))

/-- The delta of a reading is above what is plausible (R71). -/
def FeederRec.overLimit (count now : Nat) (r : FeederRec) : Bool :=
  decide (plausible r.rating (now - r.refTime) < meterDelta r.refReading count)

section
variable {s : State} {n : Nat} {r : FeederRec} (hr : s.feeder? n = some r)
include hr

/-- A READING in the second of the reference clears two marks and nothing else (R69). -/
theorem applyRead_sameSecond (h : s.clock - r.refTime = 0) (count : Nat) :
    applyRead n count s = s.updFeeder n (fun t => { t with unread := false, boundary := false }) := by
  rw [applyRead, State.feederRec_of_find hr]; exact if_pos h

/-- A later READING marks the feeder suspect or not, credits the shares of the delta used, and writes the feeder. -/
theorem applyRead_of_elapsed (h : 0 < s.clock - r.refTime) (count : Nat) :
    let dt := s.clock - r.refTime
    let used := r.usedDelta count s.clock
    ∃ port, applyRead n count s =
      (forEach (sharesOf used dt r.refTime r.points (s.busRec r.bus).supplying) (creditPart r.account)
        { s.updFeeder n (FeederRec.suspectIf (r.overLimit count s.clock)) with port }).updFeeder n
        (FeederRec.afterRead count s.clock used dt) := by
  intro dt used
  obtain ⟨port, hport⟩ := markSuspect_eq n (meterDelta r.refReading count) (plausible r.rating dt) s
  refine ⟨port, ?_⟩
  rw [show r.overLimit count s.clock = decide (plausible r.rating dt < meterDelta r.refReading count) from rfl,
    ← hport, applyRead, State.feederRec_of_find hr]
  exact if_neg (Nat.ne_of_gt h)

/-- The outcome of a feeder's own read, neither overtaken nor polled for, is its reading, and the read is no longer
in flight (R69). -/
theorem readOutcome_of_inFlight {f : FeederRead} (hf : r.inFlight = some f) (hstale : f.stale = false)
    (hpoll : f.servesPass = false) (count : Nat) :
    readOutcome n f.frame (some count) s =
      applyRead n count (s.updFeeder n (fun x => { x with inFlight := none })) := by
  rw [readOutcome, State.feederRec_of_find hr, hf]
  simp [hpoll, readTaken, hstale]

end

/-- A READING that answers a READ_METER is the outcome of that read (R69, R185). -/
theorem exec_reading_of_replies {s u : State} {slot node count n : Nat} {e : Exchange}
    (h : Replies s slot node (.reading count) e u) (hp : e.purpose = .readMeter n) :
    exec (.reading slot) s = .next (readOutcome n e.id (some count) u) := by
  obtain ⟨t, -, -, hanswers, heq⟩ := dispatchSlot_of_replies (act := dispatchReading)
    (mine := fun m => match m with | .reading _ => true | _ => false) h rfl
  refine (congrArg Host.Outcome.next heq).trans ?_
  obtain ⟨id, dest, kind, purpose⟩ := e
  cases hp
  rw [dispatchReading, hanswers]

/-- The credit of a whole read leaves what no part of it writes. -/
theorem creditShares_beside (account : Nat) (shares : List (Option Nat × Nat)) (s : State) :
    (forEach shares (creditPart account) s).besideCredit = s.besideCredit :=
  forEach_same State.besideCredit _ (creditPart_beside account) shares s

/-- The credit of a whole read leaves the other accounts. -/
theorem creditShares_account?_ne {account m : Nat} (hm : m ≠ account) (shares : List (Option Nat × Nat)) (s : State) :
    (forEach shares (creditPart account) s).account? m = s.account? m :=
  forEach_same (fun t => t.account? m) _ (fun p t => creditPart_account?_ne account p t hm) shares s

/-- The state without what a READING may write: the feeders, and what a credit writes. -/
def State.besideRead (s : State) : State := { s.besideCredit with feeders := [] }

/-! ### What a READING in a later second comes to -/

section
variable {s : State} {n : Nat} {r : FeederRec} (hr : s.feeder? n = some r) (hdt : 0 < s.clock - r.refTime)
  (count : Nat)
include hr hdt

theorem applyRead_feeders : (applyRead n count s).feeders = s.feeders.upd n
    (FeederRec.afterRead count s.clock (r.usedDelta count s.clock) (s.clock - r.refTime)
      ∘ FeederRec.suspectIf (r.overLimit count s.clock)) := by
  obtain ⟨port, h⟩ := applyRead_of_elapsed hr hdt count
  rw [h, ← Tbl.upd_upd]
  exact congrArg (Tbl.upd · n _) (congrArg State.feeders (creditShares_beside r.account _ _))

theorem applyRead_beside : (applyRead n count s).besideRead = s.besideRead := by
  obtain ⟨port, h⟩ := applyRead_of_elapsed hr hdt count
  rw [h]
  exact congrArg (fun t : State => { t with feeders := [] }) (creditShares_beside r.account _ _)

/-- The feeder's account rises by the delta used, however the points cut it (R78, R79). -/
theorem applyRead_account? (hrise : (r.refTime :: r.points.map SwitchPoint.time).Pairwise (· ≤ ·))
    (hnow : ∀ p ∈ r.points, p.time ≤ s.clock) :
    ((applyRead n count s).account? r.account).map AccountRec.periodWh =
      (s.account? r.account).map (fun x => x.periodWh + r.usedDelta count s.clock) := by
  obtain ⟨port, h⟩ := applyRead_of_elapsed hr hdt count
  have hstop : ∀ p ∈ r.points, p.time ≤ r.refTime + (s.clock - r.refTime) :=
    fun p hp => (hnow p hp).trans (by omega)
  rw [h]
  refine (creditShares_account? ..).trans ?_
  rw [sharesOf_sum hdt hrise hstop]; rfl

theorem applyRead_account?_ne {m : Nat} (hm : m ≠ r.account) :
    (applyRead n count s).account? m = s.account? m := by
  obtain ⟨port, h⟩ := applyRead_of_elapsed hr hdt count
  rw [h]
  exact creditShares_account?_ne hm _ _

section
variable (hpoints : r.points = []) (hused : 0 < r.usedDelta count s.clock)
include hpoints hused

/-- With no point pending and no supplying set the delta is unsourced. -/
theorem applyRead_unsourced (hsup : (s.busRec r.bus).supplying = none) :
    (applyRead n count s).site = { s.site with
      unsourced := s.site.unsourced + r.usedDelta count s.clock }
    ∧ (applyRead n count s).sets = s.sets := by
  obtain ⟨port, h⟩ := applyRead_of_elapsed hr hdt count
  rw [h, hpoints, hsup, sharesOf_nil, forEach_cons, forEach_nil, creditPart_unsourced _ _ hused]
  exact ⟨rfl, rfl⟩

/-- With no point pending the delta is the supplying set's (R79). -/
theorem applyRead_supplied {i : Nat} (hsup : (s.busRec r.bus).supplying = some i) :
    (applyRead n count s).sets = s.sets.upd i (SetRec.credit r.account (r.usedDelta count s.clock))
    ∧ (applyRead n count s).site = s.site := by
  obtain ⟨port, h⟩ := applyRead_of_elapsed hr hdt count
  rw [h, hpoints, hsup, sharesOf_nil, forEach_cons, forEach_nil]
  obtain ⟨port', h'⟩ := creditPart_set r.account
    { s.updFeeder n (FeederRec.suspectIf (r.overLimit count s.clock)) with port } hused i
  rw [h']
  exact ⟨rfl, rfl⟩

end

end

/-- A credit raises a set's energy and its energy of the period by the part (R79). -/
theorem SetRec.credit_energy (account wh : Nat) (r : SetRec) :
    (r.credit account wh).energy = r.energy + wh ∧ (r.credit account wh).periodEnergy = r.periodEnergy + wh := by
  unfold SetRec.credit
  dsimp only
  split_ifs <;> exact ⟨rfl, rfl⟩

end Sys2Proof.Machine

/-! ## SUPPORT. What changeovers, deliveries and orders may move, and what they leave

Raised notices leave what the port shows at its head. Evaluating, ordering, resuming and arbitrating write no feeder,
no pass, no supplies count and no STEADY bus but the ones named: one lemma an operation, in the order of the model. -/

namespace Sys2Proof.Machine

/-- Notices may have been raised on the port: the slots and RDY are the same, and so is the head of a queue that had
one, with ATTN asserted. -/
structure Port.Keeps (p q : Port) : Prop where
  request : q.request = p.request
  response : q.response = p.response
  rdy : q.rdy = p.rdy
  head : ∀ m, p.notices.head? = some m → q.notices.head? = some m
  attn : p.attn = true → q.attn = true

theorem Port.Keeps.refl (p : Port) : p.Keeps p := ⟨rfl, rfl, rfl, fun _ h => h, id⟩

theorem Port.Keeps.trans {p q r : Port} (h : p.Keeps q) (h' : q.Keeps r) : p.Keeps r :=
  ⟨h'.request.trans h.request, h'.response.trans h.response, h'.rdy.trans h.rdy,
    fun m hm => h'.head m (h.head m hm), fun ha => h'.attn (h.attn ha)⟩

theorem Port.keeps_append (n : Notice) (p : Port) : p.Keeps (p.append n) := by
  refine ⟨p.append_request n, p.append_response n, p.append_rdy n, fun m hm => ?_, fun ha => ?_⟩
  · rcases p.append_cases n with ⟨-, -, h⟩ | ⟨-, h⟩ | ⟨-, -, h⟩ <;> rw [h]
    · exact hm
    · exact hm
    · rw [List.head?_append, hm]; rfl
  · rcases p.append_cases n with ⟨-, -, h⟩ | ⟨-, h⟩ | ⟨-, -, h⟩ <;> rw [h]
    · exact ha
    · exact ha

/-- From `s` to `t` orders were sent, notices raised and changeovers and deliveries moved on; of the STEADY buses
those of `xs` at most were written. -/
structure Moves (xs : List Nat) (s t : State) : Prop where
  standing : t.standing = s.standing
  port : s.port.Keeps t.port
  pass : t.pass = s.pass
  feeders : t.feeders = s.feeders
  supplies : ∀ i, (t.setRec i).supplies = (s.setRec i).supplies
  nums : t.buses.nums = s.buses.nums
  steady : ∀ n b, n ∉ xs → s.buses.nums.Pairwise (· < ·) → s.bus? n = some b → b.state = .steady →
    t.bus? n = some b

section
variable {xs : List Nat} {s t u : State}

/-- What stands beside the tables a changeover reads is moved freely. -/
theorem Moves.aside (h : ∃ nextId tanks ctx1 ctx2 line, t = { s with nextId, tanks, ctx1, ctx2, line }) :
    Moves xs s t := by
  obtain ⟨_, _, _, _, _, rfl⟩ := h
  exact ⟨rfl, .refl _, rfl, rfl, fun _ => rfl, rfl, fun _ _ _ _ hb _ => hb⟩

theorem Moves.refl (s : State) : Moves xs s s := .aside ⟨_, _, _, _, _, rfl⟩

theorem Moves.trans (h : Moves xs s t) (h' : Moves xs t u) : Moves xs s u where
  standing := h'.standing.trans h.standing
  port := h.port.trans h'.port
  pass := h'.pass.trans h.pass
  feeders := h'.feeders.trans h.feeders
  supplies := fun i => (h'.supplies i).trans (h.supplies i)
  nums := h'.nums.trans h.nums
  steady := fun n b hn hrise hb hs =>
    h'.steady n b hn (h.nums ▸ hrise) (h.steady n b hn hrise hb hs) hs

theorem Moves.ite {c : Prop} [Decidable c] (h : c → Moves xs s t) (h' : ¬ c → Moves xs s u) :
    Moves xs s (if c then t else u) := by
  split
  next hc => exact h hc
  next hc => exact h' hc

/-- A bus that was not STEADY need not be named. -/
theorem Moves.of_not_steady {bus : Nat} (h : Moves (bus :: xs) s t) (hb : (s.busRec bus).state ≠ .steady) :
    Moves xs s t := by
  refine { h with steady := fun n b hn hrise hfind hs => h.steady n b (fun hmem => ?_) hrise hfind hs }
  rcases List.mem_cons.1 hmem with rfl | hmem
  · rw [State.busRec, hfind] at hb
    exact hb hs
  · exact hn hmem

theorem forEach_moves {α : Type} {l : List α} {f : α → State → State}
    (h : ∀ x ∈ l, ∀ t, Moves xs t (f x t)) (s : State) : Moves xs s (forEach l f s) :=
  forEach_induct (Moves xs s) f l (fun x hx _ ht => ht.trans (h x hx _)) s (.refl s)

end

section
variable {xs : List Nat} (s : State) (n bus set : Nat)

/-! ### Updates, notices and frames -/

theorem raise_moves (k : NoticeKind) (t : TableId) (v : Option Nat) : Moves xs s (raise k t n v s) :=
  ⟨rfl, Port.keeps_append _ _, rfl, rfl, fun _ => rfl, rfl, fun _ _ _ _ hb _ => hb⟩
theorem updTank_moves (f : TankRec → TankRec) : Moves xs s (s.updTank n f) := .aside ⟨_, _, _, _, _, rfl⟩
theorem updCtx_moves (f : Ctx → Ctx) : Moves xs s (s.updCtx n f) := by
  unfold State.updCtx; split <;> exact .aside ⟨_, _, _, _, _, rfl⟩
theorem sendOrder_moves (d k : Nat) (b : List Byte) (p : Purpose) : Moves xs s (sendOrder d k b p s) :=
  .aside ⟨_, _, _, _, _, rfl⟩
theorem offerQuery_moves (d k : Nat) (p : Purpose) (front : Bool) : Moves xs s (offerQuery d k p front s).1 := by
  rcases offerQuery_cases d k p front s with ⟨-, q, h⟩ | ⟨-, h⟩ <;> rw [h] <;> exact .aside ⟨_, _, _, _, _, rfl⟩

variable {n bus set}

theorem updBus_moves (h : bus ∈ xs) (f : BusRec → BusRec) : Moves xs s (s.updBus bus f) :=
  ⟨rfl, .refl _, rfl, rfl, fun _ => rfl, Tbl.nums_upd .., fun m b hm _ hb _ => by
    rw [State.bus?_updBus, if_neg (ne_of_mem_of_not_mem h hm).symm]; exact hb⟩

theorem updSet_moves {s : State} {f : SetRec → SetRec} (h : (s.updSet n f).standing = s.standing)
    (hf : ∀ r, (f r).supplies = r.supplies) : Moves xs s (s.updSet n f) := by
  refine ⟨h, .refl _, rfl, rfl, fun i => ?_, rfl, fun _ _ _ _ hb _ => hb⟩
  rw [State.setRec, State.setRec, State.set?_updSet]
  split
  · cases s.set? i with
    | none => rfl
    | some r => exact hf r
  · rfl

variable (n bus set)

theorem markStarted_moves (b : Bool) : Moves xs s (s.updSet n (fun r => { r with startedByCh := b })) :=
  updSet_moves (markStarted_standing s n b) (fun _ => rfl)
theorem clearStartFrame_moves : Moves xs s (s.updSet n (fun r => { r with startFrame := none })) :=
  updSet_moves (clearStartFrame_standing s n) (fun _ => rfl)

/-! ### Tanks recomputed -/

theorem evalLowMark_moves : Moves xs s (evalLowMark n s) := by
  unfold evalLowMark
  split
  · exact .refl s
  · exact .ite (fun _ => (updTank_moves s n _).trans (raise_moves ..))
      (fun _ => .ite (fun _ => updTank_moves s n _) (fun _ => .refl s))
theorem recomputeTank_moves : Moves xs s (recomputeTank n s) := (updTank_moves s n _).trans (evalLowMark_moves _ n)

/-! ### Panels, PENDING changeovers and the start of switching -/

theorem orderBowser_moves (k : Nat) (p : Purpose) : Moves xs s (orderBowser n k p s) := sendOrder_moves ..
theorem suspendFlow_moves : Moves xs s (suspendFlow n s) := (updCtx_moves s n _).trans (orderBowser_moves ..)
theorem placeChangeover_moves : Moves xs s (placeChangeover n s) :=
  .ite (fun _ => (updCtx_moves s n _).trans (suspendFlow_moves ..)) (fun _ => updCtx_moves s n _)
theorem switchingBegins_moves (sets : List Nat) : Moves xs s (switchingBegins sets s) :=
  forEach_moves (fun n _ t => .ite (fun _ => placeChangeover_moves t n) (fun _ => .refl t)) s

section
variable {bus} (h : bus ∈ xs)
include h

theorem orderPanel_moves (k : Nat) : Moves xs s (orderPanel bus k set s) :=
  (sendOrder_moves s ..).trans (updBus_moves _ h _)
theorem orderSync_moves : Moves xs s (orderSync bus set s) := (sendOrder_moves s ..).trans (updBus_moves _ h _)
theorem enterPhase_moves (st : BusState) (k : Nat) : Moves xs s (enterPhase bus st k s) := updBus_moves s h _
theorem enterDead_moves : Moves xs s (enterDead bus set s) :=
  (enterPhase_moves s h _ _).trans (orderPanel_moves _ set h _)
theorem leavePending_moves : Moves xs s (leavePending bus s) := by
  refine Moves.trans ?_ (switchingBegins_moves _ _)
  split
  · exact (enterPhase_moves s h _ _).trans (orderSync_moves _ _ h)
  · exact (enterPhase_moves s h _ _).trans (orderPanel_moves _ _ h _)
  · exact enterDead_moves s _ h
  · exact enterDead_moves s _ h
  · exact .refl s
end

theorem state_of_movesOn {s : State} {bus : Nat} (h : s.movesOn bus = true) : (s.busRec bus).state = .pending := by
  unfold State.movesOn at h
  dsimp only at h
  split at h
  · cases h
  · simp only [Bool.and_eq_true, decide_eq_true_eq] at h; exact h.1.1

theorem evaluatePending_moves : Moves xs s (evaluatePending bus s) := by
  refine .ite (fun h => ?_) (fun _ => .refl s)
  refine (leavePending_moves s List.mem_cons_self).of_not_steady ?_
  rw [state_of_movesOn h]; decide
theorem evaluateForTank_moves : Moves xs s (evaluateForTank n s) :=
  forEach_moves (fun b _ t => .ite (fun _ => evaluatePending_moves t b) (fun _ => .refl t)) s
theorem askLevel_moves : Moves xs s (askLevel n s) := by
  unfold askLevel
  split
  · exact offerQuery_moves ..
  · exact .refl s
theorem creditFuel_moves (ml : Nat) : Moves xs s (creditFuel n ml s) :=
  (updTank_moves s n _).trans ((recomputeTank_moves _ n).trans ((evaluateForTank_moves _ n).trans (askLevel_moves _ n)))

/-! ### Deliveries and the end of switching -/

theorem enterDone_moves (o : DocketOutcome) : Moves xs s (enterDone n o s) :=
  (updCtx_moves s n _).trans (raise_moves ..)
theorem orderFill_moves (ml : Nat) : Moves xs s (orderFill n ml s) := sendOrder_moves ..
theorem actOnTakenUp_moves (ml : Nat) : Moves xs s (actOnTakenUp n ml s) :=
  .ite (fun _ => (updCtx_moves s n _).trans (orderFill_moves ..))
    (fun _ => .ite (fun _ => updCtx_moves s n _) (fun _ => .refl s))
theorem makeCurrent_moves (k : Nat) (nom : Nomination) : Moves xs s (makeCurrent n k nom s) :=
  (updCtx_moves s n _).trans (actOnTakenUp_moves ..)
theorem takeUpFrom_moves (ks : List Nat) : Moves xs s (takeUpFrom n ks s) := by
  induction ks generalizing s with
  | nil => exact enterDone_moves ..
  | cons k ks ih =>
    unfold takeUpFrom
    split
    · exact ih s
    · exact .ite (fun _ => ih s) (fun _ => .ite (fun _ => (updCtx_moves s n _).trans (ih _))
        (fun _ => makeCurrent_moves ..))
theorem takeUpNext_moves : Moves xs s (takeUpNext n s) := takeUpFrom_moves s n _
theorem creditCurrent_moves (st : NomStatus) : Moves xs s (creditCurrent n st s) :=
  (updCtx_moves s n _).trans (creditFuel_moves ..)
theorem resumeWaiting_moves : Moves xs s (resumeWaiting n s) := (updCtx_moves s n _).trans (orderFill_moves ..)
theorem goOnToNext_moves : Moves xs s (goOnToNext n s) := by
  unfold goOnToNext
  exact .ite (fun _ => (updCtx_moves s n _).trans ((takeUpNext_moves _ n).trans (resumeWaiting_moves _ n)))
    (fun _ => (updCtx_moves s n _).trans (takeUpNext_moves _ n))
theorem completeCurrent_moves : Moves xs s (completeCurrent n s) :=
  (creditCurrent_moves s n _).trans ((updCtx_moves _ n _).trans (goOnToNext_moves _ n))
theorem resume_moves : Moves xs s (resume n s) := by
  refine (updCtx_moves s n (fun c => { c with state := .dispensing })).trans ?_
  unfold resume
  dsimp only
  split
  · exact .refl _
  · split
    · exact orderFill_moves ..
    any_goals exact .refl _
    all_goals
      refine .ite (fun _ => .ite (fun _ => ?_) (fun _ => completeCurrent_moves ..)) (fun _ => ?_)
      · exact (updCtx_moves _ n _).trans (orderFill_moves ..)
      · exact (updCtx_moves _ n _).trans (orderBowser_moves ..)
theorem resumeIfFree_moves : Moves xs s (resumeIfFree n s) := .ite (fun _ => resume_moves s n) (fun _ => .refl s)
theorem reviewChangeover_moves : Moves xs s (reviewChangeover n s) :=
  .ite (fun _ => (updCtx_moves s n _).trans (resumeIfFree_moves ..)) (fun _ => .refl s)
theorem switchingEnds_moves : Moves xs s (switchingEnds s) := forEach_moves (fun n _ t => reviewChangeover_moves t n) s

/-! ### Orders to sets, the arbiter and the end of a part -/

theorem sendCool_moves : Moves xs s (sendCool set s) := sendOrder_moves ..
theorem sendStop_moves : Moves xs s (sendStop set s) := sendOrder_moves ..
theorem takePart_moves (r : ChRole) : Moves xs s (takePart bus set r s) :=
  updSet_moves (takePart_standing s bus set r) (fun _ => rfl)
theorem clearPart_moves : Moves xs s (clearPart set s) := updSet_moves (clearPart_standing s set) (fun _ => rfl)

section
variable {bus} (h : bus ∈ xs)
include h

theorem sendStart_moves : Moves xs s (sendStart set bus s) := by
  unfold sendStart
  refine Moves.trans ?_ (updBus_moves _ h _)
  refine (sendOrder_moves s ..).trans (updSet_moves ?_ ?_)
  · exact sendStart_standing s bus set
  · exact fun _ => rfl
theorem orderByOp_moves : Moves xs s (orderByOp bus set s) := by
  refine (clearStartFrame_moves s set).trans ?_
  unfold orderByOp
  dsimp only
  split
  · exact (markStarted_moves _ set true).trans (sendStart_moves _ set h)
  · exact sendStart_moves _ set h
  all_goals exact .refl _
theorem startIncoming_moves : Moves xs s (startIncoming bus set s) := by
  refine (orderByOp_moves s set h).trans (Moves.trans ?_ (evaluatePending_moves _ bus))
  exact .ite (fun _ => .refl _) (fun _ => updBus_moves _ h _)
theorem beginEmergency_moves : Moves xs s (beginEmergency bus set s) :=
  (updBus_moves s h _).trans ((takePart_moves _ bus set .incoming).trans (startIncoming_moves _ set h))
theorem queueBus_moves : Moves xs s (queueBus bus s) := updBus_moves s h _
theorem standbyUnavailable_moves : Moves xs s (standbyUnavailable set bus s) :=
  (updBus_moves s h _).trans (raise_moves ..)
end

theorem giveStandby_moves {bs : List Nat} (h : bs ⊆ xs) : Moves xs s (giveStandby set bs s) := by
  induction bs generalizing s with
  | nil => exact .refl s
  | cons b bs ih =>
    obtain ⟨hb, hbs⟩ := List.cons_subset.1 h
    refine .ite (fun _ => ?_) (fun _ => (standbyUnavailable_moves s set hb).trans (ih _ hbs))
    exact (forEach_moves (fun c hc t => queueBus_moves t (hbs hc)) s).trans (beginEmergency_moves _ set hb)
theorem arbiterActs_moves {bs : List Nat} (h : bs ⊆ xs) : Moves xs s (arbiterActs set bs s) :=
  .ite (fun _ => forEach_moves (fun _ hc t => queueBus_moves t (h hc)) s)
    (fun _ => .ite (fun _ => forEach_moves (fun _ hc t => standbyUnavailable_moves t set (h hc)) s)
      (fun _ => giveStandby_moves s set h))

/-- Tables of canonical form list their records in rising order. -/
theorem tables_rise {s : State} (h : s.tablesOk = true) : s.sets.nums.Pairwise (· < ·)
    ∧ s.buses.nums.Pairwise (· < ·) ∧ s.feeders.nums.Pairwise (· < ·) := by
  simp only [State.tablesOk, Bool.and_eq_true, Tbl.wf_iff] at h
  obtain ⟨⟨⟨⟨⟨⟨⟨hsets, -⟩, -⟩, -⟩, hbuses, -⟩, hfeeders, -⟩, -⟩, -⟩ := h
  exact ⟨hsets, hbuses, hfeeders⟩

/-- A bus the arbiter considers is LOST, in tables of canonical form. -/
theorem lost_of_mem_lostNaming {s : State} {set : Nat} {p : Nat → BusRec → Bool}
    (hrise : s.buses.nums.Pairwise (· < ·)) {b : Nat} (h : b ∈ s.lostNaming set p) : (s.busRec b).state = .lost := by
  obtain ⟨⟨k, r⟩, he, rfl⟩ := List.mem_map.1 h
  obtain ⟨hmem, htest⟩ := List.mem_filter.1 he
  simp only [Bool.and_eq_true, decide_eq_true_eq] at htest
  rw [State.busRec, State.bus?, Tbl.find_of_mem hrise hmem]
  exact htest.1.1

/-- The arbiter writes LOST buses only, so none that is STEADY (R105). -/
theorem arbiterActs_lostNaming_moves (p : Nat → BusRec → Bool) :
    Moves xs s (arbiterActs set (s.lostNaming set p) s) := by
  have hmoves := arbiterActs_moves s set (List.Subset.refl (s.lostNaming set p))
  refine { hmoves with steady := fun n b _ hrise hb hs => hmoves.steady n b (fun hmem => ?_) hrise hb hs }
  have hlost := lost_of_mem_lostNaming hrise hmem
  rw [State.busRec, hb] at hlost
  rw [show b.state = .lost from hlost] at hs
  cases hs

theorem arbitrate_moves (handed : List Nat) : Moves xs s (arbitrate handed s) :=
  forEach_moves (fun n _ t => arbiterActs_lostNaming_moves t n _) s
theorem reevaluate_moves : Moves xs s (reevaluate set s) :=
  .ite (fun _ => .refl s) (fun _ => arbiterActs_lostNaming_moves s set _)
theorem orderByMark_moves : Moves xs s (orderByMark set s) := by
  refine .ite (fun _ => .ite (fun _ => .refl s) (fun _ => ?_))
    (fun _ => .ite (fun _ => sendCool_moves s set) (fun _ => .refl s))
  exact (markStarted_moves s set false).trans (.ite (fun _ => sendStop_moves ..) (fun _ => .refl _))
theorem partEnd_moves : Moves xs s (partEnd set s) := by
  refine (reevaluate_moves s set).trans ?_
  exact .ite (fun _ => markStarted_moves _ set false)
    (fun _ => .ite (fun _ => .refl _) (fun _ => orderByMark_moves _ set))

/-! ### Inputs asked for (R110) -/

theorem askInputs_moves (h : (s.busRec bus).state ≠ .steady) : Moves xs s (askInputs bus s) := by
  have hq : Moves (bus :: xs) s (offerQuery (s.busRec bus).panel Kind.askInputs (.askInputs bus) false s).1 :=
    offerQuery_moves ..
  exact (hq.trans (updBus_moves _ List.mem_cons_self _)).of_not_steady h

end

end Sys2Proof.Machine

/-! ## SUPPORT. Switch points and boundary reads at a change of supply (R75, R76, R80) -/

namespace Sys2Proof.Machine

@[simp] theorem offerBoundary_sets (n : Nat) (s : State) : (offerBoundary n s).sets = s.sets := by
  unfold offerBoundary
  rcases offerQuery_cases (s.feederRec n).meter Kind.readMeter (.readMeter n) true s with
    ⟨-, q, h⟩ | ⟨-, h⟩ <;> rw [h] <;> rfl
@[simp] theorem askBoundary_sets (n : Nat) (s : State) : (askBoundary n s).sets = s.sets := by
  unfold askBoundary; dsimp only; split <;> simp
@[simp] theorem markSupplyChange_sets (bus : Nat) (x : Option Nat) (s : State) :
    (markSupplyChange bus x s).sets = s.sets := forEach_same State.sets _ askBoundary_sets _ _

/-- Offering a boundary read writes one feeder, whose points stay. -/
theorem offerBoundary_feeders (n : Nat) (s : State) : ∃ f, (∀ r, FeederRec.points (f r) = r.points)
    ∧ (offerBoundary n s).feeders = s.feeders.upd n f := by
  unfold offerBoundary
  rcases offerQuery_cases (s.feederRec n).meter Kind.readMeter (.readMeter n) true s with
    ⟨-, q, h⟩ | ⟨-, h⟩ <;> rw [h]
  · exact ⟨FeederRec.reading s.nextId true false, fun _ => rfl, rfl⟩
  · exact ⟨fun r => { r with unread := true }, fun _ => rfl, rfl⟩

/-- Asking a boundary read writes one feeder, whose points stay (R80). -/
theorem askBoundary_feeders (n : Nat) (s : State) : ∃ f, (∀ r, FeederRec.points (f r) = r.points)
    ∧ (askBoundary n s).feeders = s.feeders.upd n f := by
  unfold askBoundary
  dsimp only
  split
  next f _ =>
    refine ⟨(fun r => { r with inFlight := some { f with servesBoundary := true } }) ∘
      fun r => { r with boundary := true }, fun _ => rfl, ?_⟩
    rw [State.updFeeder_updFeeder]; rfl
  next =>
    obtain ⟨f, hf, h⟩ := offerBoundary_feeders n (s.updFeeder n (fun r => { r with boundary := true }))
    refine ⟨f ∘ fun r => { r with boundary := true }, fun r => (hf _).trans rfl, ?_⟩
    rw [h, ← Tbl.upd_upd]; rfl

/-- Asking boundary reads moves no switch point. -/
theorem askBoundary_points (n m : Nat) (s : State) :
    ((askBoundary n s).feeder? m).map FeederRec.points = (s.feeder? m).map FeederRec.points := by
  obtain ⟨f, hf, h⟩ := askBoundary_feeders n s
  rw [State.feeder?, State.feeder?, h, Tbl.find_upd]
  split
  · rw [Option.map_map]; exact Option.map_congr (fun r _ => hf r)
  · rfl

theorem askBoundary_feeder?_ne {n m : Nat} (hm : m ≠ n) (s : State) :
    (askBoundary n s).feeder? m = s.feeder? m := by
  obtain ⟨f, -, h⟩ := askBoundary_feeders n s
  rw [State.feeder?, h]
  exact Tbl.find_upd_ne _ _ hm

section
variable {s : State} {bus k : Nat} {r : FeederRec} (hr : s.feeder? k = some r) (x : Option Nat)
include hr

/-- A feeder of the bus gets the point (R75). -/
theorem markSupplyChange_points (hbus : r.bus = bus) : ((markSupplyChange bus x s).feederRec k).points
    = (r.addPoint { time := s.clock, setBefore := x }).points := by
  have hpoints : ((markSupplyChange bus x s).feeder? k).map FeederRec.points
      = some (r.addPoint { time := s.clock, setBefore := x }).points := by
    refine (forEach_same (fun t => (t.feeder? k).map FeederRec.points) _ (fun n t => askBoundary_points n k t)
      _ _).trans ?_
    rw [State.feeder?, State.onFeeders_feeders, Tbl.find_updAll, ← State.feeder?, hr, Option.map_some, if_pos hbus]
    rfl
  obtain ⟨r', hr', hp⟩ := Option.map_eq_some_iff.1 hpoints
  rw [State.feederRec_of_find hr', hp]

/-- A feeder of another bus is left as it was. -/
theorem markSupplyChange_feeder?_ne (hrise : s.feeders.nums.Pairwise (· < ·)) (hbus : r.bus ≠ bus) :
    (markSupplyChange bus x s).feeder? k = some r := by
  have hlist : ∀ m ∈ s.feedersOf bus, k ≠ m := by
    rintro m hm rfl
    obtain ⟨⟨m, r'⟩, he, rfl⟩ := List.mem_map.1 hm
    obtain ⟨hmem, htest⟩ := List.mem_filter.1 he
    rw [State.feeder?, Tbl.find_of_mem hrise hmem] at hr
    cases hr
    exact hbus (of_decide_eq_true htest)
  refine forEach_induct (fun t => t.feeder? k = some r) _ _
    (fun m hm t ht => (askBoundary_feeder?_ne (hlist m hm) t).trans ht) _ ?_
  rw [State.feeder?, State.onFeeders_feeders, Tbl.find_updAll, ← State.feeder?, hr, Option.map_some, if_neg hbus]

end

/-! ## SUPPORT. What follows an event that no bus is lost in -/

theorem Tail.take_moves {xs : List Nat} (t : Tail) (s : State) : Moves xs s (t.take s) := by
  cases t with
  | aborted bus reason switching =>
    exact (raise_moves ..).trans (.ite (fun _ => switchingEnds_moves _) (fun _ => .refl _))
  | settled bus value switching =>
    exact (raise_moves ..).trans (.ite (fun _ => switchingEnds_moves _) (fun _ => .refl _))
  | switchEnds => exact switchingEnds_moves s
  | switchBegins sets => exact switchingBegins_moves s sets

/-- What follows an event without losses of its own writes no STEADY bus, no feeder and no supplies count. -/
theorem finish_moves {xs : List Nat} {f : Follow} (hdrop : f.drop = []) (s : State) : Moves xs s (finish f s) := by
  unfold finish
  rw [hdrop]
  exact (arbitrate_moves s f.lost).trans ((forEach_moves (fun t _ u => t.take_moves u) _).trans
    (forEach_moves (fun n _ u => partEnd_moves u n) _))

/-- Nothing follows an event that gathers nothing. -/
theorem finish_empty (s : State) : finish {} s = s := arbitrate_nil s

/-! ## SUPPORT. The settle (R96) -/

theorem State.busRec_of_find {s : State} {n : Nat} {b : BusRec} (h : s.bus? n = some b) : s.busRec n = b := by
  rw [State.busRec, h]; rfl

theorem State.bus?_updBus_self {s : State} {n : Nat} {b : BusRec} (h : s.bus? n = some b) (f : BusRec → BusRec) :
    (s.updBus n f).bus? n = some (f b) := by
  rw [State.bus?_updBus, if_pos rfl, h]; rfl

theorem coolCheck_moves {xs : List Nat} (set : Nat) (s : State) : Moves xs s (coolCheck set s) :=
  .ite (fun _ => sendCool_moves s set) (fun _ => .refl s)

@[simp] theorem decSupplies_feeders (set : Nat) (s : State) : (decSupplies set s).feeders = s.feeders :=
  (coolCheck_moves (xs := []) set _).feeders

/-- One supplies count falls by 1 (R83). -/
theorem decSupplies_supplies (set i : Nat) (s : State) : ((decSupplies set s).setRec i).supplies =
    if i = set then (s.setRec i).supplies - 1 else (s.setRec i).supplies := by
  rw [decSupplies, (coolCheck_moves (xs := []) set _).supplies, State.setRec, State.setRec, State.set?_updSet]
  split
  · cases s.set? i <;> rfl
  · rfl

/-- A settle as far as the switch points: the incoming set supplies the bus, STEADY now (R96). -/
def settleSupply (bus inc out : Nat) (s : State) : State :=
  (decSupplies out (s.updBus bus (fun b => { b with supplying := some inc, incoming := none }))).updBus bus
    (fun b => { b with state := .steady })

/-- The record steps of a settle whose incoming set is RUNNING (R96). -/
def settledTo (bus inc out : Nat) (s : State) : State :=
  forEach [inc, out] clearPart
    ((markSupplyChange bus (some out) (settleSupply bus inc out s)).updBus bus BusRec.endChangeover)

section
variable {s : State} {bus inc out : Nat} {b : BusRec}

theorem settle_of_running (hb : s.bus? bus = some b) (hinc : b.incoming = some inc) (hout : b.supplying = some out)
    (hrun : (s.setRec inc).op = .running) (tripped : Bool) :
    settle bus tripped s = (settledTo bus inc out s,
      { tails := [.settled bus tripped.toNat true], ended := [inc, out] }) := by
  have hop : ((decSupplies out (s.updBus bus (fun b =>
      { b with supplying := some inc, incoming := none }))).setRec inc).op = .running := by
    rw [op_of_standing (decSupplies_standing ..)]; exact hrun
  unfold settle
  rw [State.busRec_of_find hb]
  simp only [hinc, hout, Option.getD_some, enterSteady, if_pos hop]
  rfl

theorem settledTo_buses : (settledTo bus inc out s).buses = s.buses.upd bus (fun b => BusRec.endChangeover
    { b with state := .steady, supplying := some inc, incoming := none }) := by
  simp only [settledTo, settleSupply, forEach_cons, forEach_nil, clearPart_buses, State.updBus, State.onBuses_buses,
    markSupplyChange_buses, decSupplies_buses, Tbl.upd_upd]
  rfl

theorem settledTo_supplies_eq (i : Nat) : ((settledTo bus inc out s).setRec i).supplies =
    ((settleSupply bus inc out s).setRec i).supplies := by
  have hclear (x : Nat) (t : State) := (clearPart_moves (xs := []) t x).supplies i
  rw [settledTo, forEach_cons, forEach_cons, forEach_nil, hclear, hclear]
  exact congrArg SetRec.supplies (State.setRec_congr (markSupplyChange_sets bus (some out) _) i)

theorem settledTo_supplies (i : Nat) : ((settledTo bus inc out s).setRec i).supplies =
    if i = out then (s.setRec i).supplies - 1 else (s.setRec i).supplies := by
  rw [settledTo_supplies_eq]
  exact decSupplies_supplies out i _

theorem settleSupply_standing : (settleSupply bus inc out s).standing = s.standing :=
  decSupplies_standing (s.updBus bus _) out

theorem settledTo_standing : (settledTo bus inc out s).standing = s.standing := by
  simp [settledTo, settleSupply_standing]

theorem settledTo_feeders :
    (settledTo bus inc out s).feeders = (markSupplyChange bus (some out) (settleSupply bus inc out s)).feeders := by
  simp only [settledTo, forEach_cons, forEach_nil, clearPart, State.updSet_feeders, State.updBus_feeders]

theorem settleSupply_feeder? (k : Nat) : (settleSupply bus inc out s).feeder? k = s.feeder? k :=
  congrArg (Tbl.find · k) (decSupplies_feeders out (s.updBus bus _))

section
variable {k : Nat} {r : FeederRec} (hr : s.feeder? k = some r)
include hr

theorem settledTo_points (hbus : r.bus = bus) : ((settledTo bus inc out s).feederRec k).points
    = (r.addPoint { time := s.clock, setBefore := some out }).points := by
  rw [← clock_of_standing settleSupply_standing, State.feederRec, State.feeder?, settledTo_feeders]
  exact markSupplyChange_points ((settleSupply_feeder? k).trans hr) (some out) hbus

theorem settledTo_feeder?_ne (hrise : s.feeders.nums.Pairwise (· < ·)) (hbus : r.bus ≠ bus) :
    (settledTo bus inc out s).feeder? k = some r := by
  rw [State.feeder?, settledTo_feeders]
  refine markSupplyChange_feeder?_ne ((settleSupply_feeder? k).trans hr) (some out) ?_ hbus
  exact (decSupplies_feeders out (s.updBus bus _)).symm ▸ hrise

end

end

/-! ## SUPPORT. INPUTS from a panel (R92, R94, R95) -/

theorem exec_inputs_of_reports {s u : State} {slot node : Nat} {closed : List Bool}
    (h : Reports s slot node (.inputs closed) u) : exec (.inputs slot) s = .next (takeInputs node none closed u) := by
  obtain ⟨t, hsource, hcloses, -, heq⟩ := dispatchSlot_of_reports (act := dispatchInputs)
    (mine := fun m => match m with | .inputs _ => true | _ => false) h rfl
  refine (congrArg Host.Outcome.next heq).trans ?_
  simp only [dispatchInputs, wrongKind_of_reports hcloses, Slot.answers_none hcloses, hsource]
  rfl

/-- An INPUTS that answers an order to a panel closes no ASK_INPUTS (R110). -/
theorem exec_inputs_of_replies {s u : State} {slot node n : Nat} {closed : List Bool} {e : Exchange}
    (h : Replies s slot node (.inputs closed) e u) (hp : e.purpose = .panel n) :
    exec (.inputs slot) s = .next (takeInputs node (some e) closed u) := by
  obtain ⟨t, hsource, -, hanswers, heq⟩ := dispatchSlot_of_replies (act := dispatchInputs)
    (mine := fun m => match m with | .inputs _ => true | _ => false) h rfl
  refine (congrArg Host.Outcome.next heq).trans ?_
  obtain ⟨id, dest, kind, purpose⟩ := e
  cases hp
  simp only [dispatchInputs, wrongKind_of_answers hanswers, hanswers, hsource]
  rfl

/-- An INPUTS that closes nothing is discarded unless the bus of its panel is UNCERTAIN (R92, R109). -/
theorem takeInputs_discarded {u : State} {node : Nat}
    (h : ∀ n, u.buses.numWhere (fun r => decide (r.panel = node)) = some n → (u.busRec n).state ≠ .uncertain)
    (closed : List Bool) : takeInputs node none closed u = u := by
  unfold takeInputs
  split
  · rfl
  next n hn => exact if_neg (h n hn)

section
variable {u : State} {node n : Nat} {closed : List Bool} {e : Exchange} {b : BusRec}
  (hb : u.bus? n = some b)
include hb

/-- The reply a bus awaits is judged (R92). -/
theorem takeInputs_awaited (hn : u.buses.numWhere (fun r => decide (r.panel = node)) = some n)
    (hp : e.purpose = .panel n) (hawait : b.awaited = some e.id) (hstate : b.state ≠ .uncertain) :
    takeInputs node (some e) closed u = conclude (judgeInputs n closed u) := by
  simp [takeInputs, hn, State.busRec_of_find hb, hstate, hp, hawait]

/-- The incoming input has closed in CLOSING_IN (R94). -/
theorem judgeInputs_closingIn (hstate : b.state = .closingIn) (hclosed : b.showsSet closed b.incoming = true) :
    judgeInputs n closed u = (enterOverlap n u, {}) := by
  unfold judgeInputs
  rw [State.busRec_of_find hb]
  simp [hstate, hclosed]

/-- The outgoing input has opened in OVERLAP, step RELEASING (R95). -/
theorem judgeInputs_released (hstate : b.state = .overlap) (hstep : b.step = some .releasing)
    (hclosed : b.showsSet closed b.incoming = true) (hopen : b.showsSet closed b.supplying = false) :
    judgeInputs n closed u = settle n false u := by
  unfold judgeInputs judgeOverlap
  rw [State.busRec_of_find hb]
  simp [hstate, hstep, hclosed, hopen]

theorem orderPanel_bus? (kind set : Nat) :
    (orderPanel n kind set u).bus? n = some { b with awaited := some u.nextId } := by
  refine (State.bus?_updBus ..).trans ?_
  rw [if_pos rfl]
  exact congrArg _ hb

theorem enterOverlap_bus? : (enterOverlap n u).bus? n = some { b with
    state := .overlap, step := some .releasing, phase := some (u.clock + 5), awaited := some u.nextId } :=
  orderPanel_bus? (State.bus?_updBus_self hb _) _ _

end

end Sys2Proof.Machine

/-! ## SUPPORT. Passes and the release of a line reset: what every block's steps carry on

The clock, the mark of RESET, the tag index, zones, nodes, waiting commands and scan interval are written by no step
of a pass or a release, the port shows what it showed, and of the pass record a view `v` is kept: the whole record
outside the offering of polls and the pass end, the scan deadline there. -/

namespace Sys2Proof.Machine

structure Carries {γ : Type} (v : Pass → γ) (s t : State) : Prop where
  clock : t.clock = s.clock
  resetHeld : t.resetHeld = s.resetHeld
  tagIndex : t.tagIndex = s.tagIndex
  zones : t.zones = s.zones
  nodes : t.nodes = s.nodes
  pending : t.pending = s.pending
  interval : t.site.scanInterval = s.site.scanInterval
  port : s.port.Keeps t.port
  pass : v t.pass = v s.pass

section
variable {γ : Type} {v : Pass → γ} {s t u : State}

/-- Records, the line and what waits for the release are changed freely. -/
theorem Carries.aside (h : ∃ minutesTaken nextId sets tanks buses feeders accounts ctx1 ctx2 line resetWork,
    t = { s with minutesTaken, nextId, sets, tanks, buses, feeders, accounts, ctx1, ctx2, line, resetWork }) :
    Carries v s t := by
  obtain ⟨_, _, _, _, _, _, _, _, _, _, _, rfl⟩ := h
  exact ⟨rfl, rfl, rfl, rfl, rfl, rfl, rfl, .refl _, rfl⟩

theorem Carries.refl (s : State) : Carries v s s := .aside ⟨_, _, _, _, _, _, _, _, _, _, _, rfl⟩

theorem Carries.trans (h : Carries v s t) (h' : Carries v t u) : Carries v s u where
  clock := h'.clock.trans h.clock
  resetHeld := h'.resetHeld.trans h.resetHeld
  tagIndex := h'.tagIndex.trans h.tagIndex
  zones := h'.zones.trans h.zones
  nodes := h'.nodes.trans h.nodes
  pending := h'.pending.trans h.pending
  interval := h'.interval.trans h.interval
  port := h.port.trans h'.port
  pass := h'.pass.trans h.pass

theorem Carries.ite {c : Prop} [Decidable c] (h : c → Carries v s t) (h' : ¬ c → Carries v s u) :
    Carries v s (if c then t else u) := by
  split
  next hc => exact h hc
  next hc => exact h' hc

theorem Moves.carries {xs : List Nat} (h : Moves xs s t) : Carries v s t where
  clock := clock_of_standing h.standing
  resetHeld := congrArg Standing.resetHeld h.standing
  tagIndex := tagIndex_of_standing h.standing
  zones := zones_of_standing h.standing
  nodes := nodes_of_standing h.standing
  pending := pending_of_standing h.standing
  interval := congrArg Site.scanInterval (site_of_standing h.standing)
  port := h.port
  pass := congrArg v h.pass

/-- The pass record is left out of account. -/
theorem Carries.forget (h : Carries v s t) : Carries (fun _ => ()) s t := { h with pass := rfl }

theorem forEach_carries {α : Type} {f : α → State → State} (h : ∀ x t, Carries v t (f x t)) (l : List α) (s : State) :
    Carries v s (forEach l f s) :=
  forEach_induct (Carries v s) f l (fun x _ _ ht => ht.trans (h x _)) s (.refl s)

end

section
variable {γ : Type} {v : Pass → γ} (s : State) (n : Nat)

theorem raise_carries (k : NoticeKind) (t : TableId) (x : Option Nat) : Carries v s (raise k t n x s) :=
  (raise_moves (xs := []) s n k t x).carries
theorem onSite_carries {f : Site → Site} (h : (f s.site).scanInterval = s.site.scanInterval) :
    Carries v s (s.onSite f) := ⟨rfl, rfl, rfl, rfl, rfl, rfl, h, .refl _, rfl⟩
theorem onPass_carries {f : Pass → Pass} (h : v (f s.pass) = v s.pass) : Carries v s (s.onPass f) :=
  ⟨rfl, rfl, rfl, rfl, rfl, rfl, rfl, .refl _, h⟩
theorem updSet_carries (f : SetRec → SetRec) : Carries v s (s.updSet n f) :=
  .aside ⟨_, _, _, _, _, _, _, _, _, _, _, rfl⟩
theorem updTank_carries (f : TankRec → TankRec) : Carries v s (s.updTank n f) :=
  .aside ⟨_, _, _, _, _, _, _, _, _, _, _, rfl⟩
theorem updFeeder_carries (f : FeederRec → FeederRec) : Carries v s (s.updFeeder n f) :=
  .aside ⟨_, _, _, _, _, _, _, _, _, _, _, rfl⟩
theorem onAccounts_carries (f : Tbl AccountRec → Tbl AccountRec) : Carries v s (s.onAccounts f) :=
  .aside ⟨_, _, _, _, _, _, _, _, _, _, _, rfl⟩

/-! ### The estimates of a pass end (R27) -/

theorem burnFromSupply_carries (tank : Option Nat) (ml : Nat) : Carries v s (burnFromSupply tank ml s) := by
  cases tank with
  | none => exact .refl s
  | some k => exact (updTank_carries s k _).trans (.ite (fun _ => raise_carries ..) (fun _ => .refl _))
theorem estimateSet_carries : Carries v s (estimateSet n s) := by
  unfold estimateSet
  split
  · exact .refl s
  · dsimp only
    split_ifs
    · exact .refl s
    · exact (raise_carries ..).trans ((updSet_carries _ n _).trans (burnFromSupply_carries ..))
    · exact (updSet_carries s n _).trans (burnFromSupply_carries ..)
theorem recomputeTank_carries : Carries v s (recomputeTank n s) := (recomputeTank_moves (xs := []) s n).carries
theorem estimateAll_carries : Carries v s (estimateAll s) :=
  (forEach_carries (fun n t => estimateSet_carries t n) _ s).trans
    (forEach_carries (fun n t => recomputeTank_carries t n) _ _)
theorem evaluateAllPending_moves {xs : List Nat} : Moves xs s (evaluateAllPending s) :=
  forEach_moves (fun b _ t => evaluatePending_moves t b) s
theorem resendAsks_moves {xs : List Nat} : Moves xs s (resendAsks s) :=
  forEach_moves (fun b _ t => .ite (fun h => askInputs_moves t b (by rw [h.1]; decide)) (fun _ => .refl t)) s

/-! ### The performed close (R152) -/

theorem apportionAll_carries : Carries v s (apportionAll s) :=
  forEach_carries (fun _ t => forEach_carries (fun _ t => onAccounts_carries t _) _ t) _ s
theorem zeroPeriod_carries : Carries v s (zeroPeriod s) :=
  Carries.trans (.aside ⟨_, _, _, _, _, _, _, _, _, _, _, rfl⟩) (onSite_carries _ rfl)
theorem freeSet_carries : Carries v s (freeSet n s) := by
  have hfreed : Carries v s (s.onSets (fun t => t.del n)) := .aside ⟨_, _, _, _, _, _, _, _, _, _, _, rfl⟩
  have hvacated (t : State) : Carries v t ((t.onBuses (fun x => x.updAll (BusRec.vacate n))).onFeeders
      (fun x => x.updAll (FeederRec.forget n))) := .aside ⟨_, _, _, _, _, _, _, _, _, _, _, rfl⟩
  unfold freeSet
  refine hfreed.trans (Carries.trans ?_ (hvacated _))
  cases (s.setRec n).tank with
  | none => exact .refl _
  | some k => exact (updTank_carries _ k _).trans (recomputeTank_carries _ k)
theorem advancePeriod_carries : Carries v s (advancePeriod s) :=
  Carries.trans (onSite_carries s rfl) (raise_carries ..)
theorem performClose_carries : Carries v s (performClose s) :=
  (apportionAll_carries s).trans ((onAccounts_carries _ _).trans ((zeroPeriod_carries _).trans
    ((forEach_carries (fun n t => freeSet_carries t n) _ _).trans ((onAccounts_carries _ _).trans
      (advancePeriod_carries _)))))
theorem closingPassEnd_carries : Carries v s (closingPassEnd s) :=
  .ite (fun _ => .ite (fun _ => Carries.trans (onSite_carries s rfl) (raise_carries ..))
    (fun _ => performClose_carries s)) (fun _ => .refl s)

/-! ### The pass end (R68) -/

/-- The pass end but for the pass record itself. -/
def passEndWork (s : State) : State :=
  let s1 := resendAsks (evaluateAllPending (estimateAll s))
  if s1.pass.closing then closingPassEnd s1 else s1

theorem passEnd_eq : passEnd s =
    (passEndWork s).onPass (fun p => { p with state := .idle, startTime := none, closing := false }) := rfl

theorem passEndWork_carries : Carries v s (passEndWork s) := by
  have hpend : Carries v s (resendAsks (evaluateAllPending (estimateAll s))) :=
    (estimateAll_carries s).trans ((evaluateAllPending_moves (xs := []) _).carries.trans
      (resendAsks_moves (xs := []) _).carries)
  exact hpend.trans (.ite (fun _ => closingPassEnd_carries _) (fun _ => .refl _))

/-- Nothing a pass end does but its last step writes the pass record. -/
theorem passEnd_pass : (passEnd s).pass = { s.pass with state := .idle, startTime := none, closing := false } := by
  have h : (passEndWork s).pass = s.pass := (passEndWork_carries (v := id) s).pass
  rw [passEnd_eq, State.onPass, h]

end

/-! ### Polls (R66, R67): the scan deadline is kept -/

section
variable (s : State) (n : Nat)

theorem countPoll_carries : Carries Pass.scanDeadline s (countPoll s) := onPass_carries s rfl
theorem missedPoll_carries {γ : Type} {v : Pass → γ} : Carries v s (missedPoll n s) :=
  .ite (fun _ => updSet_carries s n _)
    (fun _ => .ite (fun _ => (updSet_carries s n _).trans (raise_carries ..)) (fun _ => .refl s))
theorem pollFeeder_carries : Carries Pass.scanDeadline s (pollFeeder n s) := by
  unfold pollFeeder
  split
  · exact (updFeeder_carries s n _).trans (countPoll_carries _)
  · have hq := (offerQuery_moves (xs := []) s (s.feederRec n).meter Kind.readMeter (.readMeter n) false).carries
      (v := Pass.scanDeadline)
    split
    next t id h => rw [h] at hq; exact hq.trans ((updFeeder_carries t n _).trans (countPoll_carries _))
    next t h => rw [h] at hq; exact hq.trans (updFeeder_carries t n _)
theorem pollSet_carries : Carries Pass.scanDeadline s (pollSet n s) := by
  refine .ite (fun _ => ?_) (fun _ => .refl s)
  have hq := (offerQuery_moves (xs := []) s (s.setRec n).node Kind.askState (.askState n (s.setRec n).serial)
    false).carries (v := Pass.scanDeadline)
  split
  next t id h => rw [h] at hq; exact hq.trans (countPoll_carries t)
  next t h => rw [h] at hq; exact hq.trans (missedPoll_carries t n)
theorem offerPoll_carries (p : Poll) : Carries Pass.scanDeadline s (offerPoll p s) := by
  cases p with
  | feeder n => exact pollFeeder_carries s n
  | set n => exact pollSet_carries s n
theorem offerFrom_carries (ps : List Poll) : Carries Pass.scanDeadline s (offerFrom ps s) := by
  induction ps generalizing s with
  | nil => exact onPass_carries s rfl
  | cons p ps ih => exact .ite (fun _ => (offerPoll_carries s p).trans (ih _)) (fun _ => onPass_carries s rfl)
theorem passEnd_carries : Carries Pass.scanDeadline s (passEnd s) := by
  rw [passEnd_eq]
  exact (passEndWork_carries s).trans (onPass_carries _ rfl)
theorem advancePass_carries : Carries Pass.scanDeadline s (advancePass s) :=
  (offerFrom_carries s _).trans (.ite (fun _ => passEnd_carries _) (fun _ => .refl _))
theorem startPass_carries (closing : Bool) : Carries Pass.scanDeadline s (startPass closing s) :=
  Carries.trans (onPass_carries s rfl) (advancePass_carries _)

end

/-! ### The blocks at the release (R113, R138, R44, R20, R81, R160) -/

section
variable (s : State) (n : Nat) (w : ResetWork)

theorem releaseDelivery_moves {xs : List Nat} : Moves xs s (releaseDelivery w s) := by
  refine (sendOrder_moves s ..).trans (forEach_moves (fun n _ t => ?_) _)
  cases w.voided.find? (fun v => v.1 = n) with
  | none => exact .ite (fun _ => raise_moves ..) (fun _ => .refl t)
  | some v => exact .ite (fun _ => (raise_moves ..).trans (raise_moves ..)) (fun _ => raise_moves ..)
theorem releasePart_moves {xs : List Nat} : Moves xs s (releasePart n s) :=
  .ite (fun _ => markStarted_moves s n false) (fun _ => .ite (fun _ => .refl s) (fun _ => orderByMark_moves s n))
theorem releaseUncertain_moves {xs : List Nat} : Moves xs s (releaseUncertain w s) :=
  forEach_moves (fun b _ t => .ite (fun h => by
    have hask : Moves xs t (askInputs b t) := askInputs_moves t b (by rw [h]; decide)
    exact .ite (fun _ => hask.trans (raise_moves ..)) (fun _ => hask)) (fun _ => .refl t)) s
theorem releaseTransfer_moves {xs : List Nat} : Moves xs s (releaseTransfer w s) :=
  (forEach_moves (fun b _ t => raise_moves t b _ _ _) s).trans ((releaseUncertain_moves _ w).trans
    ((arbitrate_moves _ _).trans (forEach_moves (fun n _ t => releasePart_moves t n) _)))
theorem releaseFuel_moves {xs : List Nat} : Moves xs s (releaseFuel w s) :=
  (forEach_moves (fun n _ t => askLevel_moves t n) s).trans (forEach_moves (fun n _ t => recomputeTank_moves t n) _)

variable {γ : Type} {v : Pass → γ}

theorem releaseCoolDown_carries : Carries v s (releaseCoolDown n s) := by
  have hdrop : Carries v s (if reached (s.setRec n).coolDeadline s.clock then
      s.updSet n (fun t => { t with coolDeadline := none }) else s) :=
    .ite (fun _ => updSet_carries s n _) (fun _ => .refl s)
  exact .ite (fun _ => hdrop.trans (sendStop_moves (xs := []) _ n).carries) (fun _ => hdrop)
theorem releaseRoster_carries (minutes : Nat) : Carries v s (releaseRoster minutes s) :=
  Carries.trans (.aside ⟨_, _, _, _, _, _, _, _, _, _, _, rfl⟩)
    (forEach_carries (fun n t => releaseCoolDown_carries t n) _ _)
theorem offerBoundary_carries : Carries v s (offerBoundary n s) := by
  unfold offerBoundary
  rcases offerQuery_cases (s.feederRec n).meter Kind.readMeter (.readMeter n) true s with
    ⟨-, q, h⟩ | ⟨-, h⟩ <;> rw [h] <;> exact .aside ⟨_, _, _, _, _, _, _, _, _, _, _, rfl⟩
theorem releaseScanner_carries : Carries v (setScan s) (releaseScanner s) :=
  forEach_carries (fun n t => offerBoundary_carries t n) _ _

/-- The scan deadline is a scan interval away. -/
def State.scanAhead (s : State) : Prop := s.pass.scanDeadline = some (s.clock + s.site.scanInterval)

theorem setScan_scanAhead : (setScan s).scanAhead := rfl

variable {s}

theorem Carries.scanAhead {t : State} (h : Carries Pass.scanDeadline s t) (hs : s.scanAhead) : t.scanAhead := by
  rw [State.scanAhead, h.pass, h.clock, h.interval]; exact hs

/-- Set anew in the same second, the scan deadline stays. -/
theorem setScan_carries (hs : s.scanAhead) : Carries Pass.scanDeadline s (setScan s) := onPass_carries s hs.symm

theorem requestClosingPass_carries (hs : s.scanAhead) : Carries Pass.scanDeadline s (requestClosingPass s) := by
  unfold requestClosingPass
  split
  · exact (setScan_carries hs).trans (startPass_carries _ true)
  · exact onPass_carries s rfl
theorem closeDue_carries (hs : s.scanAhead) : Carries Pass.scanDeadline s (closeDue s) := by
  have hdue : Carries Pass.scanDeadline s (s.onSite (fun p => { p with closeState := .closingPass })) :=
    onSite_carries s rfl
  exact hdue.trans (requestClosingPass_carries (hdue.scanAhead hs))
theorem addPeriodMinutes_carries (k : Nat) (hs : s.scanAhead) :
    Carries Pass.scanDeadline s (addPeriodMinutes k s) := by
  have hmatch : Carries Pass.scanDeadline s (s.onSite (fun p => { p with minuteCount := 0 })) := onSite_carries s rfl
  exact .ite (fun _ => .ite (fun _ => hmatch.trans (closeDue_carries (hmatch.scanAhead hs))) (fun _ => hmatch))
    (fun _ => onSite_carries s rfl)
theorem releaseBilling_carries (minutes : Nat) (hs : s.scanAhead) :
    Carries Pass.scanDeadline s (releaseBilling minutes s) := by
  have hminutes := addPeriodMinutes_carries minutes hs
  unfold releaseBilling
  dsimp only
  split
  · exact hminutes.trans (closeDue_carries (hminutes.scanAhead hs))
  · exact hminutes.trans (raise_carries ..)
  all_goals exact hminutes

end

/-! ### LINE_RESET_RELEASE -/

/-- A release as far as the Roster Unit, the Meter Scanner and the Billing Unit coming after (log 24). -/
def releaseBlocks (s : State) : State :=
  releaseRoster (s.clock / 60 - s.minutesTaken) (releaseFuel s.resetWork (releaseTransfer s.resetWork
    (releaseDelivery s.resetWork ((releasePort ((s.setResetHeld false).onResetWork (fun _ => {}))).setMinutesTaken
      (s.clock / 60)))))

theorem releaseBlocks_carries {γ : Type} {v : Pass → γ} (s : State) :
    Carries v (releasePort (s.setResetHeld false)) (releaseBlocks s) :=
  Carries.trans (.aside ⟨_, _, _, _, _, _, _, _, _, _, _, rfl⟩) ((releaseDelivery_moves (xs := []) _ _).carries.trans
    ((releaseTransfer_moves (xs := []) _ _).carries.trans ((releaseFuel_moves (xs := []) _ _).carries.trans
      (releaseRoster_carries _ _))))

/-- After the Meter Scanner has set the scan deadline the release sets no other. -/
theorem lineResetRelease_from_scan (s : State) :
    Carries Pass.scanDeadline (setScan (releaseBlocks s)) (lineResetRelease s) := by
  have hscan : Carries Pass.scanDeadline (setScan (releaseBlocks s)) (releaseScanner (releaseBlocks s)) :=
    releaseScanner_carries _
  exact hscan.trans (releaseBilling_carries _ (hscan.scanAhead (setScan_scanAhead _)))

theorem lineResetRelease_scanAhead (s : State) : (lineResetRelease s).scanAhead :=
  (lineResetRelease_from_scan s).scanAhead (setScan_scanAhead _)

theorem lineResetRelease_carries (s : State) :
    Carries (fun _ => ()) (releasePort (s.setResetHeld false)) (lineResetRelease s) := by
  have hscan : Carries (fun _ => ()) (releaseBlocks s) (setScan (releaseBlocks s)) := onPass_carries _ rfl
  exact (releaseBlocks_carries s).trans (hscan.trans (lineResetRelease_from_scan s).forget)

theorem exec_lineResetRelease {s : State} (h : s.resetHeld = true) :
    exec .lineResetRelease s = .next (lineResetRelease s) := congrArg Host.Outcome.next (if_pos h)

end Sys2Proof.Machine

/-! ## SUPPORT. Starting a pass with room in the queue (R65, R66) -/

namespace Sys2Proof.Machine

/-- A QUERY takes a general entry while one is free (R180, R181). -/
theorem offerQuery_of_room {s : State} (h : s.line.generalUsed < 12) (dest kind : Nat) (p : Purpose) (front : Bool) :
    ∃ t, offerQuery dest kind p front s = (t, some s.nextId) ∧ t.pass = s.pass ∧ t.sets = s.sets
      ∧ t.line.generalUsed = s.line.generalUsed + 1 := by
  refine ⟨_, if_pos (decide_eq_true h), rfl, rfl, ?_⟩
  show List.countP _ (if front then _ else _) = _
  split
  · rw [countP_queueFront]; rfl
  · rw [countP_queueBack]; rfl

/-- A poll offered with a general entry free is outstanding, and takes at most that entry (R66). -/
structure PollOffered (s t : State) : Prop where
  pass : t.pass = { s.pass with outstanding := s.pass.outstanding + 1 }
  sets : t.sets = s.sets
  used : t.line.generalUsed ≤ s.line.generalUsed + 1

/-- A poll is of a feeder, or of an IN_USE set. -/
def Poll.live (s : State) : Poll → Prop
  | .feeder _ => True
  | .set n => (s.setRec n).status = .inUse

section
variable {s : State} (hroom : s.line.generalUsed < 12)
include hroom

theorem pollFeeder_of_room (n : Nat) : PollOffered s (pollFeeder n s) := by
  unfold pollFeeder
  split
  · exact ⟨rfl, rfl, Nat.le_succ _⟩
  · obtain ⟨t, ht, hpass, hsets, hused⟩ :=
      offerQuery_of_room hroom (s.feederRec n).meter Kind.readMeter (.readMeter n) false
    rw [ht]
    exact ⟨congrArg (fun p : Pass => { p with outstanding := p.outstanding + 1 }) hpass, hsets, hused.le⟩

theorem pollSet_of_room {n : Nat} (hn : (s.setRec n).status = .inUse) : PollOffered s (pollSet n s) := by
  obtain ⟨t, ht, hpass, hsets, hused⟩ :=
    offerQuery_of_room hroom (s.setRec n).node Kind.askState (.askState n (s.setRec n).serial) false
  unfold pollSet
  dsimp only
  rw [if_pos hn, ht]
  exact ⟨congrArg (fun p : Pass => { p with outstanding := p.outstanding + 1 }) hpass, hsets, hused.le⟩

theorem offerPoll_of_room {p : Poll} (hp : p.live s) : PollOffered s (offerPoll p s) := by
  cases p with
  | feeder n => exact pollFeeder_of_room hroom n
  | set n => exact pollSet_of_room hroom hp

end

theorem Poll.live_congr {s t : State} (h : t.sets = s.sets) {p : Poll} (hp : p.live s) : p.live t := by
  cases p with
  | feeder n => trivial
  | set n => rw [Poll.live, State.setRec_congr h]; exact hp

/-- With an entry for every poll that may still be outstanding, polls are offered until four are (R66). -/
theorem offerFrom_of_room {ps : List Poll} {s : State} (hlive : ∀ p ∈ ps, p.live s) (hout : s.pass.outstanding ≤ 4)
    (hroom : s.line.generalUsed + (4 - s.pass.outstanding) ≤ 12) :
    (offerFrom ps s).pass = { s.pass with
      polls := ps.drop (4 - s.pass.outstanding), outstanding := min 4 (s.pass.outstanding + ps.length) } := by
  induction ps generalizing s with
  | nil =>
    rw [List.drop_nil, List.length_nil, Nat.add_zero, Nat.min_eq_right hout]; rfl
  | cons p ps ih =>
    unfold offerFrom
    rw [show Config.pollsOffered = 4 from rfl]
    split
    next hlt =>
      obtain ⟨hpass, hsets, hused⟩ := offerPoll_of_room (by omega) (hlive p List.mem_cons_self)
      have hnext : (offerPoll p s).pass.outstanding = s.pass.outstanding + 1 := by rw [hpass]
      rw [ih (fun q hq => Poll.live_congr hsets (hlive q (List.mem_cons_of_mem p hq))) (by omega) (by omega), hpass]
      simp only [List.length_cons]
      rw [show 4 - s.pass.outstanding = (4 - (s.pass.outstanding + 1)) + 1 by omega, List.drop_succ_cons,
        show s.pass.outstanding + (ps.length + 1) = s.pass.outstanding + 1 + ps.length by omega]
    next hfull =>
      have h4 : s.pass.outstanding = 4 := by omega
      rw [h4, Nat.min_eq_left (by omega), ← h4]
      simp [h4, State.onPass]

/-- Every entry of the poll list can be polled, in tables of canonical form (R65). -/
theorem pollList_live {s : State} (hrise : s.sets.nums.Pairwise (· < ·)) : ∀ p ∈ s.pollList, p.live s := by
  intro p hp
  rcases List.mem_append.1 hp with hp | hp
  · obtain ⟨n, -, rfl⟩ := List.mem_map.1 hp
    trivial
  · obtain ⟨n, hn, rfl⟩ := List.mem_map.1 hp
    obtain ⟨⟨n, r⟩, he, rfl⟩ := List.mem_map.1 hn
    obtain ⟨hmem, htest⟩ := List.mem_filter.1 he
    rw [Poll.live, State.setRec_of_find (Tbl.find_of_mem hrise hmem)]
    exact of_decide_eq_true htest

/-- The pass record of a pass that starts, before its first polls (R65). -/
def Pass.started (closing : Bool) (now : Nat) (polls : List Poll) (p : Pass) : Pass :=
  { p with state := .running, startTime := some now, closing, polls, outstanding := 0 }

theorem startPass_eq (closing : Bool) (s : State) :
    startPass closing s = advancePass (s.onPass (Pass.started closing s.clock s.pollList)) := rfl

/-- With a poll outstanding the pass has not ended (R66). -/
theorem advancePass_of_outstanding {s : State} (h : (offerFrom s.pass.polls s).pass.outstanding ≠ 0) :
    advancePass s = offerFrom s.pass.polls s := by
  simp [advancePass, h]

/-- A pass with something to poll goes on with four polls, or all, outstanding (R66). -/
theorem startPass_pass_of_polls {s : State} (hrise : s.sets.nums.Pairwise (· < ·)) (hpolls : s.pollList ≠ [])
    (hroom : s.line.generalUsed + 4 ≤ 12) (closing : Bool) :
    (startPass closing s).pass = { s.pass with
      state := .running, startTime := some s.clock, closing
      polls := s.pollList.drop 4, outstanding := min 4 s.pollList.length } := by
  have hpass := offerFrom_of_room (ps := s.pollList) (s := s.onPass (Pass.started closing s.clock s.pollList))
    (pollList_live hrise) (Nat.zero_le 4) hroom
  have hlen := List.length_pos_iff.2 hpolls
  rw [startPass_eq, advancePass_of_outstanding]
  · refine hpass.trans ?_
    simp only [State.onPass_pass, Pass.started, Nat.zero_add, Nat.sub_zero]
  · refine ne_of_eq_of_ne (congrArg Pass.outstanding hpass) ?_
    simp only [State.onPass_pass, Pass.started]
    omega

/-- A pass with nothing to poll ends at once (R66, R68). -/
theorem startPass_pass_of_none {s : State} (hpolls : s.pollList = []) (closing : Bool) :
    (startPass closing s).pass = { s.pass with
      state := .idle, startTime := none, closing := false, polls := [], outstanding := 0 } := by
  rw [startPass_eq, hpolls]
  exact passEnd_pass _

/-! ## SUPPORT. SCAN_DEADLINE (R62) -/

theorem exec_scanDeadline {s : State} (h : s.resetHeld = false) : exec .scanDeadline s = .next (scanEnds s) :=
  congrArg Host.Outcome.next (unlessHeld_free h)

theorem scanEnds_of_not_reached {s : State} (h : ∀ d, s.pass.scanDeadline = some d → s.clock < d) :
    scanEnds s = s := by
  unfold scanEnds reached
  cases hd : s.pass.scanDeadline with
  | none => rfl
  | some d => simp [h d hd]

section
variable {s : State} {d : Nat} (hd : s.pass.scanDeadline = some d) (hle : d ≤ s.clock)
include hd hle

theorem scanEnds_of_idle (h : s.pass.state = .idle) : scanEnds s = startPass false (setScan s) := by
  simp [scanEnds, reached, hd, hle, h]

theorem scanEnds_of_running (h : s.pass.state = .running) {t0 : Nat} (ht : s.pass.startTime = some t0) :
    scanEnds s = setScan (raise .passOverrun .site 1 (some (s.clock - t0)) s) := by
  simp [scanEnds, reached, hd, hle, h, ht]

end

/-! ## SUPPORT. START_PASS and RESEAT_FEEDER (R63, R74) -/

section
variable {s u : State} {src : Source} {a : Asked}

theorem execStartPass_of_names (hp : Presents s .startPass src a u) (hn : a.names .site 1) :
    Answers (.startPass src) s a
      (if a.ring = 0 then operate a .site startPassOwn u else refuse .notPermitted u) := by
  have hmatched : a.req.matched .startPass = true := hn.matched rfl (by decide) (by decide)
  unfold Answers
  rw [exec, execStartPass, runRequest_of_presents _ hp, hmatched]
  by_cases hring : a.ring = 0 <;> simp [ringAdmits, hring]

/-- A START_PASS without parameters comes to the pass state (R63). -/
theorem operate_startPass (hn : a.names .site 1) (hring : a.ring = 0) (hf : a.req.fields = []) :
    operate a .site startPassOwn u = startPassOwn 1 u := by
  rw [operate, onRecord_of_names hn rfl (Asked.mayReach_ring0 hring ..), Asked.params, hf]
  rfl

theorem startPassOwn_of_idle (h : u.pass.state = .idle) (n : Nat) :
    startPassOwn n u = accept .started .site n (startPass false (setScan u)) := by
  rw [startPassOwn, h]

theorem startPassOwn_of_running (h : u.pass.state = .running) (n : Nat) : startPassOwn n u = refuse .busy u := by
  rw [startPassOwn, h]

variable {n count : Nat}

/-- A RESEAT_FEEDER at ring 0 that names an IN_USE feeder comes to its own checks (R74, R174). -/
theorem execReseatFeeder_of_names (hp : Presents s .reseatFeeder src a u) (hring : a.ring = 0)
    (hn : a.names .feeders n) (hheld : u.holds .feeders n = true) :
    Answers (.reseatFeeder src) s a (reseatOwn a n u) := by
  have hmatched : a.req.matched .reseatFeeder = true := hn.matched rfl (by decide) (by decide)
  have hown : onRecord a .feeders .request (reseatOwn a) u = reseatOwn a n u :=
    onRecord_of_names hn hheld (Asked.mayReach_ring0 hring ..)
  unfold Answers
  rw [exec, execReseatFeeder, runRequest_of_presents _ hp, hmatched, hown]
  simp [ringAdmits, hring]

/-- With the count given alone its range is the one check (R74). -/
theorem reseatOwn_of_count (hf : a.req.fields = [(1, count)]) : reseatOwn a n u =
    if count ≤ 16777215 then accept .done .feeders n (reseatFeeder n count u) else refuse .outOfRange u := by
  have hget : a.params.get 1 = some count := by rw [Asked.params, hf]; rfl
  have hok : a.params.paramsOk 1 = true := by
    rw [Asked.params, hf]; simp [Fields.paramsOk, Fields.repeats, inRange]
  unfold reseatOwn
  rw [hget, hok]
  simp [Config.meterModulus, Nat.lt_succ_iff]

end

end Sys2Proof.Machine

/-! ## The statements of metering and passes, settled -/

namespace Sys2Proof.Proofs

open Sys2Proof.Machine

/-- Settles O10: RESTARTED is the first notice of an empty queue and stays at its head, and after the Meter Scanner's
share of the release a scan deadline set again is the same one. -/
theorem lineResetRelease : Obligations.LineResetRelease := by
  intro s hheld hport
  have hc := lineResetRelease_carries s
  have hkeeps := hc.port
  rw [releasePort, raise_port, State.setResetHeld_port, hport] at hkeeps
  have hscan := lineResetRelease_scanAhead s
  rw [State.scanAhead, hc.clock, hc.interval] at hscan
  exact ⟨_, exec_lineResetRelease hheld, hc.resetHeld, hkeeps.head _ rfl, hkeeps.attn rfl, hkeeps.request,
    hkeeps.response, hkeeps.rdy, hscan, hc.clock, hc.zones, hc.nodes, hc.tagIndex, hc.pending⟩

/-- Settles O42: ring 0 is what check 4 asks, and the pass state decides; no step of a pass that starts sets the scan
deadline again. -/
theorem startPass : Obligations.StartPass := by
  intro s u src a hp hn hf
  have hans := execStartPass_of_names hp hn
  refine ⟨fun hring => by rwa [if_neg hring] at hans, fun hring hidle => ?_, fun hring hrun => ?_⟩
  · rw [if_pos hring, operate_startPass hn hring hf, startPassOwn_of_idle hidle] at hans
    exact ⟨_, hans, rfl, (startPass_carries (setScan u) false).pass⟩
  · rwa [if_pos hring, operate_startPass hn hring hf, startPassOwn_of_running hrun] at hans

/-- Settles O43: with four general entries free each poll offered finds one, and with nothing to poll the pass end
writes the pass record last. -/
theorem scanDeadline : Obligations.ScanDeadline := by
  constructor
  · intro s hres again
    rw [exec_scanDeadline hres]
    refine ⟨fun h => by rw [scanEnds_of_not_reached h], fun d hd hle => ⟨fun hidle => ?_, fun t0 hrun ht => ?_⟩⟩
    · rw [scanEnds_of_idle hd hle hidle]; rfl
    · rw [scanEnds_of_running hd hle hrun ht]; rfl
  · intro s closing hok polls p
    obtain ⟨hsets, -, -⟩ := tables_rise hok
    refine ⟨fun hpolls hroom => startPass_pass_of_polls hsets hpolls hroom closing, fun hnone => ?_⟩
    have hp : p = _ := startPass_pass_of_none hnone closing
    rw [hp]
    exact ⟨rfl, rfl, rfl, rfl, rfl⟩

/-- Settles O44: the read leaves its flight, its delta is credited share by share, which writes neither the feeders nor
any other account, and the feeder's own fields are written last. -/
theorem readingApplied : Obligations.ReadingApplied := by
  intro s u slot node n count e r f hrep hp hr hf hid hstale hpoll dt delta used
  have hread := State.feeder?_updFeeder u n n (fun x => { x with inFlight := none })
  rw [if_pos rfl, hr] at hread
  rw [exec_reading_of_replies hrep hp, ← hid, readOutcome_of_inFlight hr hf hstale hpoll]
  refine ⟨fun h0 => ?_, fun hdt => ⟨_, rfl, ?_, fun hrise hnow x hx => ?_, fun hpoints hsup hused => ?_,
    fun i x hpoints hsup hx hused => ?_, fun m hm => ?_, fun m hm => applyRead_account?_ne hread hdt count hm, ?_⟩⟩
  · rw [applyRead_sameSecond hread h0, State.updFeeder_updFeeder]; rfl
  · rw [State.feeder?, applyRead_feeders hread hdt count, Tbl.find_upd_self]
    exact congrArg _ hread
  · have hacc := applyRead_account? hread hdt count hrise hnow
    rw [show (u.updFeeder n _).account? r.account = some x from hx] at hacc
    obtain ⟨y, hy, hwh⟩ := Option.map_eq_some_iff.1 hacc
    rw [State.accountRec, hy]
    exact hwh
  · obtain ⟨hsite, hsets⟩ := applyRead_unsourced hread hdt count hpoints hused hsup
    exact ⟨congrArg Site.unsourced hsite, hsets⟩
  · obtain ⟨hsets, hsite⟩ := applyRead_supplied hread hdt count hpoints hused hsup
    have hcredit := SetRec.credit_energy r.account used x
    have hrec : (applyRead n count (u.updFeeder n (fun x => { x with inFlight := none }))).setRec i
        = x.credit r.account used := by
      refine State.setRec_of_find ?_
      rw [State.set?, hsets, Tbl.find_upd_self]
      exact congrArg _ hx
    rw [hrec]
    refine ⟨hcredit.1, hcredit.2, hsite, fun m hm => ?_⟩
    rw [State.set?, hsets, Tbl.find_upd_ne _ _ hm]; rfl
  · rw [State.feeder?, applyRead_feeders hread hdt count, Tbl.find_upd_ne _ _ hm]
    exact (State.feeder?_updFeeder ..).trans (if_neg hm)
  · have h := applyRead_beside hread hdt count
    exact ⟨(congrArg State.buses h :), (congrArg State.tanks h :), (congrArg State.zones h :),
      (congrArg State.nodes h :), (congrArg State.pass h :), (congrArg State.line h :)⟩

/-- Settles O45: what the floors leave goes to the last share, and a full list gives up its second point. -/
theorem energySplit : Obligations.EnergySplit := by
  refine ⟨fun delta dt start points supplier hdt hrise hstop =>
    ⟨sharesOf_sum hdt hrise hstop delta supplier, sharesOf_names .., fun k p from_ hp hfrom => ?_⟩, ?_⟩
  · rw [sharesOf_getElem? hp hfrom]; rfl
  · intro r p hlen
    unfold FeederRec.addPoint
    match hpoints : r.points with
    | [] => simp
    | [a] => simp
    | [a, b] => simp
    | _ :: _ :: _ :: _ => rw [hpoints] at hlen; simp at hlen

/-- Settles O46: past its rights a RESEAT_FEEDER has the range of the count to meet, and writes one feeder. -/
theorem reseatFeeder : Obligations.ReseatFeeder := by
  intro s u src a n count r hp hring hn hf hr
  have hans := execReseatFeeder_of_names hp hring hn (by rw [State.holds, hr]; rfl)
  rw [reseatOwn_of_count hf] at hans
  refine ⟨fun hcount => by rwa [if_neg (Nat.not_le.2 hcount)] at hans, fun hcount => ?_⟩
  rw [if_pos hcount] at hans
  refine ⟨_, hans, rfl, ?_, fun m hm => (State.feeder?_updFeeder ..).trans (if_neg hm)⟩
  refine (State.feeder?_updFeeder ..).trans ?_
  rw [if_pos rfl, hr]; rfl

/-- Settles O51: what follows the settle moves neither the bus, STEADY now, nor a supplies count nor a feeder. -/
theorem panelInputs : Obligations.PanelInputs := by
  refine ⟨fun s u slot node closed hrep hdiscard => ?_, ?_⟩
  · rw [exec_inputs_of_reports hrep, takeInputs_discarded hdiscard]
  intro s u slot node n inc out closed e b hok hrep hp hn hb hawait hinc hout hne hclosed
  rw [← hinc] at hclosed
  rw [exec_inputs_of_replies hrep hp]
  refine ⟨fun hstate => ?_, fun hstate hstep hopen hrun => ?_⟩
  · rw [takeInputs_awaited hb hn hp hawait (by rw [hstate]; decide), judgeInputs_closingIn hb hstate hclosed,
      conclude, finish_empty]
    refine ⟨_, rfl, ?_⟩
    rw [State.busRec_of_find (enterOverlap_bus? hb)]
    exact ⟨rfl, rfl, rfl, hout, hinc, rfl, rfl, rfl⟩
  · rw [← hout] at hopen
    rw [takeInputs_awaited hb hn hp hawait (by rw [hstate]; decide),
      judgeInputs_released hb hstate hstep hclosed hopen, settle_of_running hb hinc hout hrun]
    obtain ⟨-, hbuses, hfeeders⟩ := tables_rise hok
    have hm := finish_moves (xs := []) (f := { tails := [.settled n 0 true], ended := [inc, out] }) rfl
      (settledTo n inc out u)
    refine ⟨_, rfl, hm.steady n _ List.not_mem_nil ?_ ?_ rfl, ?_, ?_, fun k r hr hbus => ?_,
      fun k r hr hbus => ?_, ?_⟩
    · rw [settledTo_buses, Tbl.nums_upd]; exact hbuses
    · rw [State.bus?, settledTo_buses, Tbl.find_upd_self]
      exact congrArg _ hb
    · exact (hm.supplies out).trans ((settledTo_supplies out).trans (if_pos rfl))
    · exact (hm.supplies inc).trans ((settledTo_supplies inc).trans (if_neg hne))
    · rw [← settledTo_points (inc := inc) (out := out) hr hbus]
      exact congrArg (fun t : Tbl FeederRec => ((t.find k).getD {}).points) hm.feeders
    · exact (congrArg (Tbl.find · k) hm.feeders).trans (settledTo_feeder?_ne hr hfeeders hbus)
    · exact (accounts_of_standing hm.standing).trans (accounts_of_standing settledTo_standing)

end Sys2Proof.Proofs

/-! ## SUPPORT. What outlives deliveries, arbitration and the ends of parts

What follows the record steps of a bus event reaches every block. A property of states outlives all of it when it
outlives each kind of write that these steps are made of: one lemma an operation, in the order of the model. Unlike
`Moves.steady` this serves notices too, and bus tables of any form. -/

namespace Sys2Proof.Machine

/-- `p` outlives what deliveries are made of: writes beside the tables a changeover reads, notices, and the
evaluation of PENDING changeovers (R89). -/
structure OutlivesDeliveries (p : State → Prop) : Prop where
  aside : ∀ {s t}, (∃ nextId tanks ctx1 ctx2 line, t = { s with nextId, tanks, ctx1, ctx2, line }) → p s → p t
  raise : ∀ {s} k t n v, p s → p (raise k t n v s)
  evaluate : ∀ {s} bus, p s → p (evaluatePending bus s)

/-- `p` outlives arbitration and the ends of parts too: any write to a set, and any write to a bus that `w` allows,
which a LOST bus always is. -/
structure OutlivesEvents (w : Nat → Prop) (p : State → Prop) : Prop extends OutlivesDeliveries p where
  set : ∀ {s} n f, p s → p (s.updSet n f)
  bus : ∀ {s b} f, w b → p s → p (s.updBus b f)
  lost : ∀ {s set q b}, p s → b ∈ s.lostNaming set q → w b

namespace OutlivesDeliveries

variable {p : State → Prop} (h : OutlivesDeliveries p) {s : State} (hs : p s) (n : Nat)

theorem ite {c : Prop} [Decidable c] {t : State} (ht : c → p t) (hs : ¬ c → p s) : p (if c then t else s) := by
  split
  next hc => exact ht hc
  next hc => exact hs hc

include h hs

/-! ### Tanks, frames and PENDING changeovers -/

theorem updTank (f : TankRec → TankRec) : p (s.updTank n f) := h.aside ⟨_, _, _, _, _, rfl⟩ hs
theorem updCtx (f : Ctx → Ctx) : p (s.updCtx n f) := by
  unfold State.updCtx; split <;> exact h.aside ⟨_, _, _, _, _, rfl⟩ hs
theorem sendOrder (d k : Nat) (b : List Byte) (q : Purpose) : p (sendOrder d k b q s) :=
  h.aside (s := s) ⟨_, _, _, _, _, rfl⟩ hs
theorem offerQuery (d k : Nat) (q : Purpose) (front : Bool) : p (offerQuery d k q front s).1 := by
  rcases offerQuery_cases d k q front s with ⟨-, _, e⟩ | ⟨-, e⟩ <;> rw [e]
  · exact h.aside ⟨_, _, _, _, _, rfl⟩ hs
  · exact hs
theorem evalLowMark : p (evalLowMark n s) := by
  unfold Machine.evalLowMark
  split
  · exact hs
  · exact ite (fun _ => h.raise _ _ _ _ (h.updTank hs n _))
      (fun _ => ite (fun _ => h.updTank hs n _) (fun _ => hs))
theorem recomputeTank : p (recomputeTank n s) := h.evalLowMark (h.updTank hs n _) n
theorem evaluateForTank : p (evaluateForTank n s) :=
  forEach_induct p _ _ (fun _ _ _ ht => ite (fun _ => h.evaluate _ ht) (fun _ => ht)) s hs
theorem askLevel : p (askLevel n s) := by
  unfold Machine.askLevel
  split
  · exact h.offerQuery hs ..
  · exact hs
theorem creditFuel (ml : Nat) : p (creditFuel n ml s) :=
  h.askLevel (h.evaluateForTank (h.recomputeTank (h.updTank hs n _) n) n) n

/-! ### Deliveries at the start and the end of switching -/

theorem suspendFlow : p (suspendFlow n s) := h.sendOrder (h.updCtx hs n _) ..
theorem placeChangeover : p (placeChangeover n s) :=
  ite (fun _ => h.suspendFlow (h.updCtx hs n _) n) (fun _ => h.updCtx hs n _)
theorem switchingBegins (sets : List Nat) : p (switchingBegins sets s) :=
  forEach_induct p _ _ (fun n _ _ ht => ite (fun _ => h.placeChangeover ht n) (fun _ => ht)) s hs
theorem enterDone (o : DocketOutcome) : p (enterDone n o s) := h.raise _ _ _ _ (h.updCtx hs n _)
theorem actOnTakenUp (ml : Nat) : p (actOnTakenUp n ml s) :=
  ite (fun _ => h.sendOrder (h.updCtx hs n _) ..)
    (fun _ => ite (fun _ => h.updCtx hs n _) (fun _ => hs))
theorem makeCurrent (k : Nat) (nom : Nomination) : p (makeCurrent n k nom s) :=
  h.actOnTakenUp (h.updCtx hs n _) n _
theorem takeUpFrom (ks : List Nat) : p (takeUpFrom n ks s) := by
  induction ks generalizing s with
  | nil => exact h.enterDone hs n _
  | cons k ks ih =>
    unfold Machine.takeUpFrom
    split
    · exact ih hs
    · exact ite (fun _ => ih hs) (fun _ => ite (fun _ => ih (h.updCtx hs n _)) (fun _ => h.makeCurrent hs n _ _))
theorem resumeWaiting : p (resumeWaiting n s) := h.sendOrder (h.updCtx hs n _) ..
theorem goOnToNext : p (goOnToNext n s) :=
  have taken := h.takeUpFrom (h.updCtx hs n _) n _
  ite (fun _ => h.resumeWaiting taken n) (fun _ => taken)
theorem completeCurrent : p (completeCurrent n s) :=
  h.goOnToNext (h.updCtx (h.creditFuel (h.updCtx hs n _) _ _) n _) n
theorem resume : p (resume n s) := by
  have hdisp := h.updCtx hs n (fun c => { c with state := .dispensing })
  unfold Machine.resume
  dsimp only
  split
  · exact hdisp
  · split
    case h_1 => exact h.sendOrder hdisp ..
    case h_4 => exact hdisp
    case h_5 => exact hdisp
    case h_6 => exact hdisp
    all_goals
      refine ite (fun _ => ite (fun _ => ?_) (fun _ => h.completeCurrent hdisp n)) (fun _ => ?_)
      all_goals exact h.sendOrder (h.updCtx hdisp n _) ..
theorem resumeIfFree : p (resumeIfFree n s) := ite (fun _ => h.resume hs n) (fun _ => hs)
theorem reviewChangeover : p (reviewChangeover n s) :=
  ite (fun _ => h.resumeIfFree (h.updCtx hs n _) n) (fun _ => hs)
theorem switchingEnds : p (switchingEnds s) :=
  forEach_induct p _ _ (fun n _ _ ht => h.reviewChangeover ht n) s hs
theorem endSwitchingIf (switching : Bool) : p (endSwitchingIf switching s) :=
  ite (fun _ => h.switchingEnds hs) (fun _ => hs)
theorem tail (t : Tail) : p (t.take s) := by
  cases t with
  | aborted bus reason switching => exact h.endSwitchingIf (h.raise _ _ _ _ hs) _
  | settled bus value switching => exact h.endSwitchingIf (h.raise _ _ _ _ hs) _
  | switchEnds => exact h.switchingEnds hs
  | switchBegins sets => exact h.switchingBegins hs sets

end OutlivesDeliveries

/-- What follows an event without losses of its own: arbitration, notices and hand-offs, the ends of parts. -/
theorem finish_of_no_drop {f : Follow} (hdrop : f.drop = []) (s : State) :
    finish f s = forEach f.ended partEnd (forEach f.tails Tail.take (arbitrate f.lost s)) := by
  unfold finish
  rw [hdrop]
  rfl

namespace OutlivesEvents

variable {w : Nat → Prop} {p : State → Prop} (h : OutlivesEvents w p) {s : State} (hs : p s)
include h hs

/-! ### Orders to sets, the arbiter and the end of a part -/

section
variable {bus : Nat} (hw : w bus) (set : Nat)
include hw

theorem sendStart : p (sendStart set bus s) := h.bus _ hw (h.set _ _ (h.sendOrder hs ..))
theorem orderByOp : p (orderByOp bus set s) := by
  have cleared := h.set set (fun r => { r with startFrame := none }) hs
  unfold Machine.orderByOp
  dsimp only
  split
  · exact h.sendStart (h.set _ _ cleared) hw set
  · exact h.sendStart cleared hw set
  all_goals exact cleared
theorem startIncoming : p (startIncoming bus set s) :=
  have ordered := h.orderByOp hs hw set
  h.evaluate _ (OutlivesDeliveries.ite (fun _ => ordered) (fun _ => h.bus _ hw ordered))
theorem beginEmergency : p (beginEmergency bus set s) := h.startIncoming (h.set _ _ (h.bus _ hw hs)) hw set
theorem standbyUnavailable : p (standbyUnavailable set bus s) := h.raise _ _ _ _ (h.bus _ hw hs)

end

theorem queueAll {bs : List Nat} (hw : ∀ b ∈ bs, w b) : p (forEach bs queueBus s) :=
  forEach_induct p _ _ (fun b hb _ ht => h.bus _ (hw b hb) ht) s hs
theorem giveStandby {bs : List Nat} (hw : ∀ b ∈ bs, w b) (set : Nat) : p (giveStandby set bs s) := by
  induction bs generalizing s with
  | nil => exact hs
  | cons b bs ih =>
    obtain ⟨hb, hbs⟩ := List.forall_mem_cons.1 hw
    exact OutlivesDeliveries.ite (fun _ => h.beginEmergency (h.queueAll hs hbs) hb set)
      (fun _ => ih (h.standbyUnavailable hs hb set) hbs)
theorem arbiterActs {bs : List Nat} (hw : ∀ b ∈ bs, w b) (set : Nat) : p (arbiterActs set bs s) :=
  OutlivesDeliveries.ite (fun _ => h.queueAll hs hw)
    (fun _ => OutlivesDeliveries.ite
      (fun _ => forEach_induct p _ _ (fun b hb _ ht => h.standbyUnavailable ht (hw b hb) set) s hs)
      (fun _ => h.giveStandby hs hw set))
theorem arbitrate (handed : List Nat) : p (arbitrate handed s) :=
  forEach_induct p _ _ (fun set _ _ ht => h.arbiterActs ht (fun _ hb => h.lost ht hb) set) s hs
theorem reevaluate (set : Nat) : p (reevaluate set s) :=
  OutlivesDeliveries.ite (fun _ => hs) (fun _ => h.arbiterActs hs (fun _ hb => h.lost hs hb) set)
theorem orderByMark (set : Nat) : p (orderByMark set s) :=
  have unmarked := h.set set (fun t => { t with startedByCh := false }) hs
  OutlivesDeliveries.ite
    (fun _ => OutlivesDeliveries.ite (fun _ => hs)
      (fun _ => OutlivesDeliveries.ite (fun _ => h.sendOrder unmarked ..) (fun _ => unmarked)))
    (fun _ => OutlivesDeliveries.ite (fun _ => h.sendOrder hs ..) (fun _ => hs))
theorem partEnd (set : Nat) : p (partEnd set s) :=
  have judged := h.reevaluate hs set
  OutlivesDeliveries.ite (fun _ => h.set _ _ judged)
    (fun _ => OutlivesDeliveries.ite (fun _ => judged) (fun _ => h.orderByMark judged set))

theorem partEnds (sets : List Nat) : p (forEach sets Machine.partEnd s) :=
  forEach_induct p _ _ (fun set _ _ ht => h.partEnd ht set) s hs

/-- What outlives each step outlives all that follows an event without losses of its own. -/
theorem finish {f : Follow} (hdrop : f.drop = []) : p (finish f s) := by
  rw [finish_of_no_drop hdrop]
  exact h.partEnds (forEach_induct p _ _ (fun t _ _ hu => h.tail hu t) _ (h.arbitrate hs f.lost)) _

end OutlivesEvents

end Sys2Proof.Machine

/-! ## SUPPORT. A settled bus, the notices queued and the sets, after a bus event -/

namespace Sys2Proof.Machine

@[simp] theorem switchingBegins_buses (sets : List Nat) (s : State) : (switchingBegins sets s).buses = s.buses := by
  refine forEach_same State.buses _ (fun n t => ?_) _ s
  simp only [apply_ite State.buses, placeChangeover, suspendFlow, orderBowser, sendOrder_eq, State.updCtx_buses,
    ite_self]

theorem enterPhase_buses (bus : Nat) (st : BusState) (seconds : Nat) (s : State) :
    (enterPhase bus st seconds s).buses = s.buses.upd bus (fun b =>
      { b with state := st, warmUp := none, fuelWait := none, phase := some (s.clock + seconds) }) := rfl
theorem orderPanel_buses (bus kind set : Nat) (s : State) : (orderPanel bus kind set s).buses =
    s.buses.upd bus (fun b => { b with awaited := some s.nextId }) := rfl
theorem orderSync_buses (bus set : Nat) (s : State) : (orderSync bus set s).buses =
    s.buses.upd bus (fun b => { b with awaited := some s.nextId }) := rfl

/-- Evaluating a PENDING changeover writes its own bus at most (R89, R91). -/
theorem evaluatePending_buses (bus : Nat) (s : State) :
    ∃ f, (evaluatePending bus s).buses = s.buses.upd bus f := by
  have none_written : ∃ f, s.buses = s.buses.upd bus f := ⟨id, (Tbl.upd_id _ _).symm⟩
  unfold evaluatePending
  split
  · unfold leavePending
    dsimp only
    rw [switchingBegins_buses]
    split
    · rw [orderSync_buses, enterPhase_buses, Tbl.upd_upd]; exact ⟨_, rfl⟩
    · rw [orderPanel_buses, enterPhase_buses, Tbl.upd_upd]; exact ⟨_, rfl⟩
    · rw [enterDead, orderPanel_buses, enterPhase_buses, Tbl.upd_upd]; exact ⟨_, rfl⟩
    · rw [enterDead, orderPanel_buses, enterPhase_buses, Tbl.upd_upd]; exact ⟨_, rfl⟩
    · exact none_written
  · exact none_written

/-- A bus that is not PENDING does not move on (R89). -/
theorem evaluatePending_of_not_pending {s : State} {bus : Nat} (h : (s.busRec bus).state ≠ .pending) :
    evaluatePending bus s = s := if_neg (fun hm => h (state_of_movesOn hm))

/-- Bus `n` reads as `b`, and no entry under its number is LOST. -/
structure State.HoldsBus (n : Nat) (b : BusRec) (s : State) : Prop where
  find : s.bus? n = some b
  notLost : ∀ r, (n, r) ∈ s.buses → r.state ≠ .lost

namespace State.HoldsBus

variable {n : Nat} {b : BusRec} {s t : State}

theorem congr (h : s.HoldsBus n b) (ht : t.buses = s.buses) : t.HoldsBus n b :=
  ⟨by rw [State.bus?, ht]; exact h.find, by rw [ht]; exact h.notLost⟩

/-- Another bus may be written. -/
theorem of_other {m : Nat} {f : BusRec → BusRec} (h : s.HoldsBus n b) (hm : m ≠ n)
    (ht : t.buses = s.buses.upd m f) : t.HoldsBus n b := by
  constructor
  · rw [State.bus?, ht, Tbl.find_upd_ne _ _ hm.symm]
    exact h.find
  · intro r hr
    rw [ht] at hr
    obtain ⟨⟨k, x⟩, hx, he⟩ := List.mem_map.1 hr
    dsimp only at he
    split at he
    next hk => exact absurd (hk.symm.trans (Prod.mk.inj he).1) hm
    next => exact h.notLost r (he ▸ hx)

/-- A bus is held as it is written. -/
theorem of_written {f : BusRec → BusRec} (hb : s.bus? n = some b) (hf : ∀ r, (f r).state ≠ .lost)
    (ht : t.buses = s.buses.upd n f) : t.HoldsBus n (f b) := by
  constructor
  · rw [State.bus?, ht, Tbl.find_upd_self, ← State.bus?, hb]; rfl
  · intro r hr
    rw [ht] at hr
    obtain ⟨⟨k, x⟩, hx, he⟩ := List.mem_map.1 hr
    dsimp only at he
    split at he
    next => exact (Prod.mk.inj he).2 ▸ hf x
    next hk => exact absurd (Prod.mk.inj he).1 hk

end State.HoldsBus

/-- A bus neither LOST nor PENDING is written by nothing that follows an event of its own (R89, R105). -/
theorem holdsBus_outlives {n : Nat} {b : BusRec} (hb : b.state ≠ .pending) :
    OutlivesEvents (· ≠ n) (State.HoldsBus n b) where
  aside := by
    rintro s _ ⟨_, _, _, _, _, rfl⟩ h
    exact h.congr rfl
  raise _ _ _ _ h := h.congr rfl
  evaluate {s} bus h := by
    by_cases hbus : bus = n
    · subst hbus
      rw [evaluatePending_of_not_pending (by rw [State.busRec, h.find]; exact hb)]
      exact h
    · obtain ⟨f, hf⟩ := evaluatePending_buses bus s
      exact h.of_other hbus hf
  set _ _ h := h.congr rfl
  bus _ hm h := h.of_other hm rfl
  lost {s set q b} h hmem := by
    obtain ⟨⟨k, r⟩, he, rfl⟩ := List.mem_map.1 hmem
    obtain ⟨hlisted, htest⟩ := List.mem_filter.1 he
    simp only [Bool.and_eq_true, decide_eq_true_eq] at htest
    rintro rfl
    exact h.notLost r hlisted htest.1.1

/-- A notice queued stays queued (R195). -/
theorem noticeQueued_outlives (m : Notice) : OutlivesEvents (fun _ => True) (fun s => m ∈ s.port.notices) where
  aside := by
    rintro s _ ⟨_, _, _, _, _, rfl⟩ h
    exact h
  raise _ _ _ _ h := Port.mem_append_of_mem _ h
  evaluate {s} bus h := by
    rwa [same_of_beside (evaluatePending_beside s bus) State.port (fun _ => rfl)]
  set _ _ h := h
  bus _ _ h := h
  lost _ _ := trivial

/-- Deliveries write no set. -/
theorem sets_outlive_deliveries (sets : Tbl SetRec) : OutlivesDeliveries (fun s => s.sets = sets) where
  aside := by
    rintro s _ ⟨_, _, _, _, _, rfl⟩ h
    exact h
  raise _ _ _ _ h := h
  evaluate {s} bus h := by
    rwa [same_of_beside (evaluatePending_beside s bus) State.sets (fun _ => rfl)]

/-! ## SUPPORT. An abort that leaves a bus its supply (R99) -/

/-- A bus STEADY with the set that supplies it and nothing of the changeover (R99). -/
def BusRec.backOnSupply (b : BusRec) : BusRec := { b.endChangeover with state := .steady }

theorem conclude_eq (s : State) (f : Follow) : conclude (s, f) = finish f s := rfl

/-- The record steps of an abort in PENDING or SYNCING whose supplying set is RUNNING (R99). -/
def abortedTo (bus inc out : Nat) (s : State) : State :=
  (forEach [inc, out] clearPart (s.updBus bus BusRec.endChangeover)).updBus bus
    (fun b => { b with state := .steady })

/-- What follows them (R99, steps 4 to 6). -/
def abortFollow (bus inc out : Nat) (reason : AbortReason) (switching : Bool) : Follow where
  tails := [.aborted bus reason switching]
  ended := [inc, out]

/-- CHANGEOVER_ABORTED with the code of its reason (R99, step 4). -/
def abortNotice (bus : Nat) (reason : AbortReason) (now : Nat) : Notice where
  kind := .changeoverAborted
  table := .buses
  index := bus
  value := some reason.code
  time := now

/-- Bus `n` is back on its supply after an abort: no supplies count has changed, no feeder has got a point, and
CHANGEOVER_ABORTED is queued when there is room. -/
structure BackOnSupply (n : Nat) (b : BusRec) (reason : AbortReason) (s t : State) : Prop where
  bus : t.bus? n = some b.backOnSupply
  supplies : ∀ m, (t.setRec m).supplies = (s.setRec m).supplies
  feeders : t.feeders = s.feeders
  told : s.port.notices.length < 32 → abortNotice n reason s.clock ∈ t.port.notices

section
variable {s : State} {bus inc out : Nat} {b : BusRec}

theorem abortedTo_buses : (abortedTo bus inc out s).buses = s.buses.upd bus BusRec.backOnSupply := by
  simp only [abortedTo, State.updBus, State.onBuses_buses, forEach_cons, forEach_nil, clearPart_buses, Tbl.upd_upd]
  rfl

theorem abortedTo_port : (abortedTo bus inc out s).port = s.port := rfl
theorem abortedTo_clock : (abortedTo bus inc out s).clock = s.clock := rfl

theorem abortedTo_moves : Moves [bus] s (abortedTo bus inc out s) :=
  (updBus_moves s List.mem_cons_self _).trans ((clearPart_moves _ inc).trans
    ((clearPart_moves _ out).trans (updBus_moves _ List.mem_cons_self _)))

/-- The notice raised stays queued to the end of the event. -/
theorem finish_abort_told (reason : AbortReason) (switching : Bool) (hroom : s.port.notices.length < 32) :
    abortNotice bus reason s.clock ∈ (finish (abortFollow bus inc out reason switching) s).port.notices := by
  have houtlive := noticeQueued_outlives (abortNotice bus reason s.clock)
  have hraised : abortNotice bus reason s.clock
      ∈ (raise .changeoverAborted .buses bus (some reason.code) s).port.notices := Port.mem_append_self rfl hroom
  rw [finish_of_no_drop rfl]
  refine houtlive.partEnds ?_ _
  rw [show (abortFollow bus inc out reason switching).lost = [] from rfl, arbitrate_nil]
  exact houtlive.endSwitchingIf hraised switching

section
variable (hb : s.bus? bus = some b) (hstate : b.state = .pending ∨ b.state = .syncing)
  (hout : b.supplying = some out) (hrun : (s.setRec out).op = .running) (reason : AbortReason)
include hb hstate hout hrun

theorem abortBack_of_running : abortBack bus reason s = (abortedTo bus (b.incoming.getD 0) out s,
    abortFollow bus (b.incoming.getD 0) out reason b.state.switching) := by
  have hop : ((forEach [b.incoming.getD 0, out] clearPart (s.updBus bus BusRec.endChangeover)).setRec out).op
      = .running := by
    rw [op_of_standing (forEach_standing _ (fun n t => clearPart_standing t n) _)]; exact hrun
  rw [← State.busRec_of_find hb] at hstate
  unfold abortBack abort
  simp only [abortCounts_of_waiting hstate, State.busRec_of_find hb, hout, Option.toList_some, enterSteady, if_pos hop]
  rfl

/-- An abort in PENDING or SYNCING gives a bus back to its RUNNING supplying set (R99). -/
theorem conclude_abortBack : BackOnSupply bus b reason s (conclude (abortBack bus reason s)) := by
  have hrec : Moves [bus] s (abortedTo bus (b.incoming.getD 0) out s) := abortedTo_moves
  rw [abortBack_of_running hb hstate hout hrun, conclude_eq]
  have hfollow := hrec.trans
    (finish_moves (f := abortFollow bus (b.incoming.getD 0) out reason b.state.switching) rfl _)
  have hheld : State.HoldsBus bus b.backOnSupply (abortedTo bus (b.incoming.getD 0) out s) :=
    .of_written hb (fun _ => by nofun) abortedTo_buses
  have htold := finish_abort_told (s := abortedTo bus (b.incoming.getD 0) out s) (bus := bus)
    (inc := b.incoming.getD 0) (out := out) reason b.state.switching
  rw [abortedTo_port, abortedTo_clock] at htold
  exact ⟨((holdsBus_outlives (by nofun)).finish hheld rfl).find, hfollow.supplies, hfollow.feeders, htold⟩

end

end

end Sys2Proof.Machine

/-! ## SUPPORT. The deadlines of a changeover (R90, R93, R94, R108) -/

namespace Sys2Proof.Machine

theorem reached_of_le {d now : Nat} (h : d ≤ now) : reached (some d) now = true := by simp [reached, h]

theorem reached_of_none_due {d : Option Nat} {now : Nat} (h : ∀ t, d = some t → now < t) :
    reached d now = false := by
  cases d with
  | none => rfl
  | some t => simp [reached, h t rfl]

/-- The fields of a bus that enters UNCERTAIN (R108). -/
def BusRec.inDoubt (b : BusRec) : BusRec :=
  { b with state := .uncertain, phase := none, step := none, awaited := none }

/-- ASK_INPUTS is sent, or finds no entry and is awaited no more (R110). -/
theorem askInputs_buses (bus : Nat) (s : State) :
    ∃ id, (askInputs bus s).buses = s.buses.upd bus (fun b => { b with askFrame := id }) := by
  unfold askInputs
  rcases offerQuery_cases (s.busRec bus).panel Kind.askInputs (.askInputs bus) false s with
    ⟨-, q, h⟩ | ⟨-, h⟩ <;> rw [h] <;> exact ⟨_, rfl⟩

@[simp] theorem askInputs_sets (bus : Nat) (s : State) : (askInputs bus s).sets = s.sets :=
  (sets_outlive_deliveries s.sets).offerQuery rfl ..

@[simp] theorem askInputs_feeders (bus : Nat) (s : State) : (askInputs bus s).feeders = s.feeders :=
  (offerQuery_moves (xs := []) s ..).feeders

section
variable {s : State} {n d : Nat} {b : BusRec} (hres : s.resetHeld = false)

section
include hres

theorem exec_warmUpDeadline (n : Nat) : exec (.warmUpDeadline n) s = .next (warmUpEnds n s) :=
  congrArg Host.Outcome.next (unlessHeld_free hres)
theorem exec_fuelWaitDeadline (n : Nat) : exec (.fuelWaitDeadline n) s = .next (fuelWaitEnds n s) :=
  congrArg Host.Outcome.next (unlessHeld_free hres)
theorem exec_phaseDeadline (n : Nat) : exec (.phaseDeadline n) s = .next (phaseEnds n s) :=
  congrArg Host.Outcome.next (unlessHeld_free hres)

end

variable (hb : s.bus? n = some b)
include hb

theorem warmUpEnds_of_reached (hstate : b.state = .pending) (hd : b.warmUp = some d) (hle : d ≤ s.clock) :
    warmUpEnds n s = conclude (abortBack n .warmupTimeout s) := by
  rw [warmUpEnds, State.busRec_of_find hb, hd, if_pos ⟨hstate, reached_of_le hle⟩]

theorem warmUpEnds_of_not_reached (h : ∀ d, b.warmUp = some d → s.clock < d) : warmUpEnds n s = s := by
  simp [warmUpEnds, State.busRec_of_find hb, reached_of_none_due h]

theorem fuelWaitEnds_of_reached (hstate : b.state = .pending) (hd : b.fuelWait = some d) (hle : d ≤ s.clock) :
    fuelWaitEnds n s = conclude (abortBack n .fuelWaitTimeout s) := by
  rw [fuelWaitEnds, State.busRec_of_find hb, hd, if_pos ⟨hstate, reached_of_le hle⟩]

theorem fuelWaitEnds_of_not_reached (h : ∀ d, b.fuelWait = some d → s.clock < d) : fuelWaitEnds n s = s := by
  simp [fuelWaitEnds, State.busRec_of_find hb, reached_of_none_due h]

theorem phaseEnds_of_reached (hd : b.phase = some d) (hle : d ≤ s.clock) : phaseEnds n s = phaseExpires n s := by
  rw [phaseEnds, State.busRec_of_find hb, hd, if_pos (reached_of_le hle)]

theorem phaseEnds_of_not_reached (h : ∀ d, b.phase = some d → s.clock < d) : phaseEnds n s = s := by
  simp [phaseEnds, State.busRec_of_find hb, reached_of_none_due h]

theorem phaseExpires_syncing (hstate : b.state = .syncing) :
    phaseExpires n s = conclude (abortBack n .syncTimeout s) := by
  rw [phaseExpires, State.busRec_of_find hb, hstate]

theorem phaseExpires_closingIn (hstate : b.state = .closingIn) : phaseExpires n s = enterUncertain n s := by
  simp only [phaseExpires, panelUnanswered, State.busRec_of_find hb, hstate]

theorem uncertainRecord_closingIn (hstate : b.state = .closingIn) :
    uncertainRecord n s = s.updBus n BusRec.inDoubt := by
  rw [uncertainRecord, State.busRec_of_find hb, hstate]; rfl

/-- From CLOSING_IN a bus enters UNCERTAIN with its sets as they were, and no count changes (R108). -/
theorem enterUncertain_closingIn (hstate : b.state = .closingIn) :
    (∃ id, (enterUncertain n s).bus? n = some { b.inDoubt with askFrame := id })
    ∧ (enterUncertain n s).sets = s.sets ∧ (enterUncertain n s).feeders = s.feeders := by
  rw [enterUncertain, uncertainRecord_closingIn hb hstate]
  obtain ⟨id, hid⟩ := askInputs_buses n (s.updBus n BusRec.inDoubt)
  refine ⟨⟨id, ?_⟩, ?_, ?_⟩
  · rw [State.updBus_buses, Tbl.upd_upd] at hid
    have hheld := State.HoldsBus.of_written hb (fun _ => by nofun) hid
    have hraised := hheld.congr (raise_buses _ n .busUncertain .buses none)
    exact ((holdsBus_outlives (by nofun)).switchingEnds hraised).find
  · exact (sets_outlive_deliveries s.sets).switchingEnds (askInputs_sets n (s.updBus n BusRec.inDoubt))
  · refine (switchingEnds_moves (xs := []) _).feeders.trans ?_
    exact askInputs_feeders n (s.updBus n BusRec.inDoubt)

end

/-! ## SUPPORT. SYNC_OK (R93) -/

theorem exec_syncOk_of_reports {s u : State} {slot node : Nat} (h : Reports s slot node .syncOk u) :
    exec (.syncOk slot) s = .next (takeSyncOk node u) := by
  obtain ⟨t, hsource, hcloses, -, heq⟩ := dispatchSlot_of_reports (act := dispatchSyncOk)
    (mine := fun m => match m with | .syncOk => true | _ => false) h rfl
  refine (congrArg Host.Outcome.next heq).trans ?_
  simp only [dispatchSyncOk, wrongKind_of_reports hcloses, hsource]

theorem takeSyncOk_unmatched {u : State} {node : Nat} (h : ∀ e ∈ u.sets, e.2.node ≠ node) :
    takeSyncOk node u = u := by
  have hnone : u.sets.numWhere (fun r => decide (r.node = node)) = none :=
    Tbl.numWhere_eq_none (fun e he => by simp [h e he])
  rw [takeSyncOk, hnone]

section
variable {u : State} {node i n : Nat} {b : BusRec}
  (hi : u.sets.numWhere (fun r => decide (r.node = node)) = some i)
include hi

/-- A SYNC_OK that no changeover in SYNCING awaits from its incoming set is ignored (R93). -/
theorem takeSyncOk_ignored (h : ∀ n, (u.setRec i).chBus = some n →
    ¬ ((u.busRec n).state = .syncing ∧ (u.busRec n).incoming = some i)) : takeSyncOk node u = u := by
  rw [takeSyncOk, hi]
  dsimp only
  split
  · rfl
  next n hn => exact if_neg (h n hn)

/-- A SYNC_OK awaited is judged by the projected endurance (R93). -/
theorem takeSyncOk_awaited (hch : (u.setRec i).chBus = some n) (hb : u.bus? n = some b)
    (hstate : b.state = .syncing) (hinc : b.incoming = some i) :
    takeSyncOk node u = if u.projectedEndurance i n < b.required then conclude (abortBack n .enduranceShort u)
      else closeIn n i u := by
  rw [takeSyncOk, hi]
  simp only [hch, State.busRec_of_find hb, hstate, hinc, and_self, if_true]

end

/-- The fields of a bus that enters CLOSING_IN, awaiting the reply to its CLOSE_INPUT (R93). -/
def BusRec.closesIn (now frame : Nat) (b : BusRec) : BusRec :=
  { b with state := .closingIn, warmUp := none, fuelWait := none, phase := some (now + 2), awaited := some frame }

/-- Entering CLOSING_IN writes its bus alone. -/
theorem closeIn_buses (bus inc : Nat) (s : State) :
    (closeIn bus inc s).buses = s.buses.upd bus (BusRec.closesIn s.clock s.nextId) := by
  rw [closeIn, incSupplies_buses, orderPanel_buses, enterPhase_buses, Tbl.upd_upd]; rfl

/-- Entering CLOSING_IN counts the incoming set and writes no other (R83, R93). -/
theorem closeIn_sets (bus inc : Nat) (s : State) : (closeIn bus inc s).sets =
    s.sets.upd inc (fun r => { r with supplies := r.supplies + 1 }) := rfl

end Sys2Proof.Machine

/-! ## SUPPORT. CONFIRM_SUPPLY (R109, R111) -/

namespace Sys2Proof.Machine

/-! ### The answer -/

@[simp] theorem acceptOr_done (t : TableId) (n : Nat) (s : State) : acceptOr t n (s, .done) = accept .done t n s :=
  if_pos rfl
theorem acceptOr_refused {x : Answer} (h : x ≠ .done) (t : TableId) (n : Nat) (s : State) :
    acceptOr t n (s, x) = refuse x s := if_neg h

/-! ### Positions and what they show -/

/-- A set without a position stands at none of the inputs (R111). -/
theorem BusRec.position_eq_none {r : BusRec} {set : Nat} : r.position set = none ↔ some set ∉ r.inputs := by
  rw [BusRec.position, Option.map_eq_none_iff, List.findIdx?_eq_none_iff]
  simp only [decide_eq_false_iff_not]
  exact ⟨fun h hmem => h _ hmem rfl, fun h x hx hxs => h (hxs ▸ hx)⟩

/-- The set of a position stands there among the inputs, counted from 1. -/
theorem BusRec.inputs_of_position {r : BusRec} {set j : Nat} (h : r.position set = some (j + 1)) :
    r.inputs[j]? = some (some set) := by
  simp only [BusRec.position, Option.map_eq_some_iff, Nat.add_right_cancel_iff, exists_eq_right,
    List.findIdx?_eq_some_iff_getElem] at h
  obtain ⟨hj, hset, -⟩ := h
  rw [List.getElem?_eq_getElem hj, of_decide_eq_true hset]

/-- A set that stands among the inputs has a position. -/
theorem BusRec.exists_position {r : BusRec} {set : Nat} (h : some set ∈ r.inputs) :
    ∃ j, r.position set = some (j + 1) := by
  rw [← not_not (a := some set ∈ r.inputs), ← BusRec.position_eq_none, BusRec.position, ← ne_eq,
    Option.ne_none_iff_exists'] at h
  obtain ⟨k, hk⟩ := h
  obtain ⟨j, -, rfl⟩ := Option.map_eq_some_iff.1 hk
  exact ⟨j, hk⟩

/-- Two sets stand at no position in common. -/
theorem BusRec.position_ne {r : BusRec} {x y j : Nat} (hx : r.position x = some (j + 1)) (hne : y ≠ x) :
    (r.position y).getD 0 ≠ j + 1 := by
  intro hy
  cases hpos : r.position y with
  | none => rw [hpos] at hy; cases hy
  | some k =>
    rw [hpos, Option.getD_some] at hy
    have hat := BusRec.inputs_of_position (hpos.trans (congrArg some hy))
    rw [BusRec.inputs_of_position hx] at hat
    cases hat
    exact hne rfl

/-- Of the positions a CONFIRM_SUPPLY stands for, that of the set alone shows closed (R111). -/
theorem shows_confirmed (j k : Nat) : shows (List.replicate j false ++ [true]) k = decide (k = j + 1) := by
  unfold shows
  cases k with
  | zero => simp
  | succ k =>
    rcases Nat.lt_trichotomy k j with h | rfl | h
    · simp [List.getElem?_append_left, h, h.ne]
    · simp
    · have hlen : (List.replicate j false ++ [true])[k]? = none := by
        rw [List.getElem?_eq_none_iff]; simpa using h
      simp [hlen, h.ne']

/-! ### The return to the supplying set -/

/-- The record steps of a return to the supplying set out of UNCERTAIN, that set RUNNING (R109). -/
def resolvedBack (bus inc x : Nat) (s : State) : State :=
  (forEach [inc, x] clearPart ((decSupplies inc s).updBus bus BusRec.endUncertain)).updBus bus
    (fun b => { b with state := .steady })

section
variable {s : State} {n set inc : Nat} {b : BusRec}

theorem resolvedBack_buses : (resolvedBack n inc set s).buses =
    s.buses.upd n (fun b => { b.endUncertain with state := .steady }) := by
  simp only [resolvedBack, State.updBus, State.onBuses_buses, forEach_cons, forEach_nil, clearPart_buses,
    decSupplies_buses, Tbl.upd_upd]
  rfl

/-- The count of the incoming set falls, and the rest is moved at most. -/
theorem resolvedBack_moves : Moves [n] (decSupplies inc s) (resolvedBack n inc set s) :=
  (updBus_moves _ List.mem_cons_self _).trans ((clearPart_moves _ inc).trans
    ((clearPart_moves _ set).trans (updBus_moves _ List.mem_cons_self _)))

theorem resolveBack_of_running (hrun : (s.setRec set).op = .running) :
    resolveBack n inc set s = (resolvedBack n inc set s, { ended := [inc, set] }) := by
  have hop : ((forEach [inc, set] clearPart ((decSupplies inc s).updBus n BusRec.endUncertain)).setRec set).op
      = .running := by
    rw [op_of_standing (forEach_standing _ (fun n t => clearPart_standing t n) _),
      op_of_standing (State.updBus_standing ..), op_of_standing (decSupplies_standing ..)]
    exact hrun
  simp only [resolveBack, enterSteady, if_pos hop]
  rfl

variable (hb : s.bus? n = some b)
include hb

/-- The supplying set's input alone closed, the bus returns to it (R109). -/
theorem resolve_confirmed (hx : b.supplying = some set) (hinc : b.incoming = some inc) (hne : inc ≠ set)
    (hcabled : some set ∈ b.inputs) :
    resolve n (confirmedInputs b (some set)) s = resolveBack n inc set s := by
  obtain ⟨j, hj⟩ := BusRec.exists_position hcabled
  have hclosed : confirmedInputs b (some set) = List.replicate j false ++ [true] := by
    simp [confirmedInputs, hj]
  have hout : b.showsSet (List.replicate j false ++ [true]) (some set) = true := by
    simp [BusRec.showsSet, hj, shows_confirmed]
  have hin : b.showsSet (List.replicate j false ++ [true]) (some inc) = false := by
    simp [BusRec.showsSet, shows_confirmed, BusRec.position_ne hj hne]
  have hother : b.otherShows (List.replicate j false ++ [true]) = false := by
    simp only [BusRec.otherShows, hx, Option.bind_some, hj, shows_confirmed, List.any_eq_false]
    intro k _
    by_cases hk : k = j + 1 <;> simp [hk]
  rw [hclosed]
  simp only [resolve, State.busRec_of_find hb, hother, hx, hinc, hout, hin]
  rfl

/-- What the return to the supplying set out of UNCERTAIN leaves (R109). -/
theorem conclude_resolveBack (hrun : (s.setRec set).op = .running) (hne : inc ≠ set) :
    let t := conclude (resolveBack n inc set s)
    t.bus? n = some { b.endUncertain with state := .steady }
    ∧ (t.setRec inc).supplies = (s.setRec inc).supplies - 1
    ∧ (t.setRec set).supplies = (s.setRec set).supplies ∧ t.feeders = s.feeders := by
  rw [resolveBack_of_running hrun, conclude_eq]
  intro t
  have hfollow : Moves [n] (decSupplies inc s) t := resolvedBack_moves.trans (finish_moves rfl _)
  have hheld : State.HoldsBus n _ (resolvedBack n inc set s) := .of_written hb (fun _ => by nofun) resolvedBack_buses
  refine ⟨((holdsBus_outlives (by nofun)).finish hheld rfl).find, ?_, ?_, ?_⟩
  · rw [hfollow.supplies, decSupplies_supplies, if_pos rfl]
  · rw [hfollow.supplies, decSupplies_supplies, if_neg hne.symm]
  · rw [hfollow.feeders, decSupplies_feeders]

/-! ### The request -/

theorem confirmSupply_settled (hstate : b.state ≠ .uncertain) (x : Option Nat) :
    confirmSupply n x s = (s, .wrongState) := by
  simp only [confirmSupply, State.busRec_of_find hb, ne_eq, hstate, not_false_eq_true, if_true]

theorem confirmSupply_notCabled (hstate : b.state = .uncertain) (h : some set ∉ b.inputs) :
    confirmSupply n (some set) s = (s, .notCabled) := by
  simp [confirmSupply, State.busRec_of_find hb, hstate, BusRec.position_eq_none.2 h]

theorem confirmSupply_neither (hstate : b.state = .uncertain) (h : some set ∈ b.inputs)
    (hx : b.supplying ≠ some set) (hinc : b.incoming ≠ some set) :
    confirmSupply n (some set) s = (s, .wrongState) := by
  obtain ⟨j, hj⟩ := BusRec.exists_position h
  simp [confirmSupply, State.busRec_of_find hb, hstate, hj, hx, hinc]

theorem confirmSupply_supplying (hstate : b.state = .uncertain) (h : some set ∈ b.inputs)
    (hx : b.supplying = some set) (hinc : b.incoming = some inc) (hne : inc ≠ set) :
    confirmSupply n (some set) s = (conclude (resolveBack n inc set s), .done) := by
  obtain ⟨j, hj⟩ := BusRec.exists_position h
  rw [← resolve_confirmed hb hx hinc hne h]
  simp [confirmSupply, State.busRec_of_find hb, hstate, hj, hx]

end

section
variable {s u : State} {src : Source} {a : Asked} {n set : Nat}
  (hp : Presents s .confirmSupply src a u) (hn : a.names .buses n)
include hp hn

/-- CONFIRM_SUPPLY needs ring 0 (R111, R173). -/
theorem execConfirmSupply_of_names :
    Answers (.confirmSupply src) s a
      (if a.ring = 0 then onRecord a .buses .request (confirmOwn a) u else refuse .notPermitted u) := by
  have hmatched : a.req.matched .confirmSupply = true := hn.matched rfl (by decide) (by decide)
  unfold Answers
  rw [exec, execConfirmSupply, runRequest_of_presents _ hp, hmatched]
  by_cases hring : a.ring = 0 <;> simp [ringAdmits, hring]

/-- Past its rights a CONFIRM_SUPPLY that names a set comes to its own checks. -/
theorem execConfirmSupply_of_set (hring : a.ring = 0) (hheld : u.holds .buses n = true)
    (hf : a.req.fields = [(1, set)]) :
    Answers (.confirmSupply src) s a (acceptOr .buses n (confirmSupply n (some set) u)) := by
  have hans := execConfirmSupply_of_names hp hn
  have hok : Fields.paramsOk [(1, set)] 1 = true := by simp [Fields.paramsOk, Fields.repeats, inRange]
  rw [if_pos hring, onRecord_of_names hn hheld (Asked.mayReach_ring0 hring ..), confirmOwn, Asked.params, hf,
    if_pos hok] at hans
  exact hans

end

end Sys2Proof.Machine

/-! ## SUPPORT. CHANGEOVER (R87, R88) -/

namespace Sys2Proof.Machine

/-! ### The checks -/

/-- The checks of R87 on a bus record `b`, in their order, each with its refusal. -/
def State.changeoverChecks (u : State) (n set : Nat) (kind : ChKind) (ring : Nat) (b : BusRec) :
    List (Bool × Answer) :=
  let i := u.setRec set
  let o := b.supplying.map u.setRec
  [ (decide (¬ (kind = .closed ∧ b.state = .lost)), .wrongState)
  , (decide (b.state = .steady ∨ b.state = .lost), .busy)
  , (decide ((u.zoneRec b.zone).showHold = false ∨ ring = 0), .notPermitted)
  , (decide (kind = .closed ∨ b.noBreak = false ∨ ring = 0), .notPermitted)
  , (decide (some set ∈ b.inputs), .notCabled)
  , (decide (i.status = .inUse ∧ i.op ≠ .fault ∧ i.silent = false), .wrongState)
  , (decide (b.supplying ≠ some set), .wrongState)
  , (decide (∀ x ∈ o, x.silent = false), .wrongState)
  , (decide ((i.pinned = false ∧ ∀ x ∈ o, x.pinned = false) ∨ ring = 0), .notPermitted)
  , (decide (i.chBus = none ∧ ∀ x ∈ o, x.chBus = none), .busy)
  , (decide (i.supplies < 8), .noRoom)
  , (decide (u.projectedLoad set n ≤ 1000), .overRating) ]

theorem BusRec.position_isSome (r : BusRec) (set : Nat) :
    (r.position set).isSome = decide (some set ∈ r.inputs) := by
  rw [Bool.eq_iff_iff, decide_eq_true_iff, ← not_iff_not, ← BusRec.position_eq_none]
  simp

theorem isNone_eq_decide_none (x : Option Nat) : x.isNone = decide (x = none) := by cases x <;> rfl

theorem changeoverRefusal_eq {u : State} {n : Nat} {b : BusRec} (hb : u.bus? n = some b) (set : Nat) {kind : ChKind}
    (hkind : kind = .closed ∨ kind = .opened) (ring : Nat) :
    changeoverRefusal n set kind ring u = firstFailing (u.changeoverChecks n set kind ring b) := by
  rw [changeoverRefusal, State.busRec_of_find hb, State.changeoverChecks, BusRec.position_isSome,
    show Config.suppliesMax = 8 from rfl]
  congr 1
  cases b.supplying <;> rcases hkind with rfl | rfl <;>
    simp [Bool.and_assoc, isNone_eq_decide_none]

/-- A set that passes the checks is IN_USE. -/
theorem inUse_of_changeoverChecks {u : State} {n set ring : Nat} {kind : ChKind} {b : BusRec}
    (h : firstFailing (u.changeoverChecks n set kind ring b) = none) :
    (u.setRec set).status = .inUse ∧ b.supplying ≠ some set := by
  have hall := firstFailing_none.1 h
  simp only [State.changeoverChecks, List.forall_mem_cons, decide_eq_true_eq] at hall
  obtain ⟨-, -, -, -, -, ⟨huse, -, -⟩, hother, -⟩ := hall
  exact ⟨huse, hother⟩

/-- A record that does not read as FREE is listed. -/
theorem set?_of_inUse {s : State} {n : Nat} (h : (s.setRec n).status = .inUse) : s.set? n = some (s.setRec n) := by
  rw [State.setRec] at h ⊢
  cases hr : s.set? n with
  | none => rw [hr] at h; cases h
  | some r => rfl

/-! ### The incoming set ordered by its op state (R88) -/

section
variable {s : State} {bus set : Nat}

/-- A changeover whose incoming set is not RUNNING does not move on (R89). -/
theorem evaluatePending_of_not_running (h : ∀ i, (s.busRec bus).incoming = some i → (s.setRec i).op ≠ .running) :
    evaluatePending bus s = s := by
  refine if_neg (fun hm => ?_)
  unfold State.movesOn at hm
  dsimp only at hm
  split at hm
  · cases hm
  next i hi =>
    simp only [Bool.and_eq_true, decide_eq_true_eq] at hm
    exact h i hi hm.1.2

theorem sendStart_bus? {b : BusRec} (hb : s.bus? bus = some b) :
    (sendStart set bus s).bus? bus = some { b with awaited := some s.nextId } :=
  State.bus?_updBus_self (s := State.updSet set _ (offerOrder _ Kind.start [] _ s).1) hb _

theorem orderByOp_bus? {b : BusRec} (hb : s.bus? bus = some b) :
    ∃ x, (orderByOp bus set s).bus? bus = some { b with awaited := x } := by
  unfold orderByOp
  dsimp only
  split
  · exact ⟨_, sendStart_bus? hb⟩
  · exact ⟨_, sendStart_bus? hb⟩
  all_goals exact ⟨b.awaited, hb⟩

theorem orderByOp_tanks : (orderByOp bus set s).tanks = s.tanks := by
  unfold orderByOp; dsimp only; split <;> rfl

theorem sendStart_sets : (sendStart set bus s).sets = s.sets.upd set (fun t =>
    { t with
      startFrame := some s.nextId
      coolDeadline := if decide ((s.setRec set).op = .cooling) then none else t.coolDeadline }) := rfl

/-- START leaves a set its part in the changeover and the mark of it. -/
theorem sendStart_part {r : SetRec} (hr : s.set? set = some r) : ∃ r', (sendStart set bus s).set? set = some r'
    ∧ r'.chBus = r.chBus ∧ r'.chRole = r.chRole ∧ r'.startedByCh = r.startedByCh := by
  rw [State.set?, sendStart_sets, Tbl.find_upd_self, ← State.set?, hr]
  exact ⟨_, rfl, rfl, rfl, rfl⟩

/-- Ordering a set leaves it its part in the changeover, and a STOPPED one is marked (R88). -/
theorem orderByOp_part {r : SetRec} (hr : s.set? set = some r) : ∃ r', (orderByOp bus set s).set? set = some r'
    ∧ r'.chBus = r.chBus ∧ r'.chRole = r.chRole ∧ (r.op = .stopped → r'.startedByCh = true) := by
  have hclear : (s.updSet set (fun r => { r with startFrame := none })).set? set
      = some { r with startFrame := none } := by
    rw [State.set?_updSet, if_pos rfl, hr]; rfl
  have hmark (t : State) {x : SetRec} (hx : t.set? set = some x) :
      (t.updSet set (fun r => { r with startedByCh := true })).set? set = some { x with startedByCh := true } := by
    rw [State.set?_updSet, if_pos rfl, hx]; rfl
  unfold orderByOp
  dsimp only
  rw [State.setRec_of_find hr]
  split
  next =>
    obtain ⟨r', hr', hbus, hrole, hstarted⟩ := sendStart_part (bus := bus) (hmark _ hclear)
    exact ⟨r', hr', hbus, hrole, fun _ => hstarted⟩
  next hop =>
    obtain ⟨r', hr', hbus, hrole, -⟩ := sendStart_part (bus := bus) hclear
    exact ⟨r', hr', hbus, hrole, by rw [hop]; nofun⟩
  all_goals
    next hop => exact ⟨_, hclear, rfl, rfl, by rw [hop]; nofun⟩

/-- An incoming set that is not RUNNING is ordered by its op state, and the changeover waits for it (R88, R89). -/
theorem startIncoming_of_not_running {b : BusRec} (hop : (s.setRec set).op ≠ .running) (hb : s.bus? bus = some b)
    (hinc : b.incoming = some set) : startIncoming bus set s =
      (orderByOp bus set s).updBus bus (fun b => { b with warmUp := some (s.clock + Config.warmUp) }) := by
  unfold startIncoming
  dsimp only
  rw [if_neg hop]
  refine evaluatePending_of_not_running (fun i hi => ?_)
  obtain ⟨x, hx⟩ := orderByOp_bus? (set := set) hb
  rw [State.busRec_of_find (State.bus?_updBus_self hx _)] at hi
  cases hinc.symm.trans hi
  rw [op_of_standing ((State.updBus_standing ..).trans (orderByOp_standing s bus set))]
  exact hop

end

/-! ### The changeover accepted -/

/-- The fields of a bus whose changeover is accepted (R88). -/
def BusRec.accepted (set : Nat) (kind : ChKind) (by_ : Party) (now : Nat) (b : BusRec) : BusRec :=
  { b with
    state := .pending
    incoming := some set
    kind := some kind
    requester := some by_
    fuelWait := some (now + Config.fuelWait)
    queued := false
    awaited := none }

/-- A changeover that has taken its bus and its sets, before the incoming one is ordered (R86, R88). -/
def partsTaken (bus set : Nat) (kind : ChKind) (by_ : Party) (s : State) : State :=
  forEach (s.busRec bus).supplying.toList (fun o => takePart bus o .outgoing)
    (takePart bus set .incoming (s.updBus bus (BusRec.accepted set kind by_ s.clock)))

theorem acceptChangeover_eq (bus set : Nat) (kind : ChKind) (by_ : Party) (s : State) :
    acceptChangeover bus set kind by_ s = startIncoming bus set (partsTaken bus set kind by_ s) := rfl

section
variable {s : State} {n set : Nat} {b : BusRec} (kind : ChKind) (by_ : Party)

theorem partsTaken_standing : (partsTaken n set kind by_ s).standing = s.standing := by
  simp [partsTaken]

theorem acceptChangeover_moves : Moves [n] s (acceptChangeover n set kind by_ s) :=
  (updBus_moves s List.mem_cons_self _).trans ((takePart_moves _ n set .incoming).trans
    ((forEach_moves (fun o _ t => takePart_moves t n o .outgoing) _).trans
      (startIncoming_moves _ set List.mem_cons_self)))

theorem partsTaken_tanks : (partsTaken n set kind by_ s).tanks = s.tanks :=
  forEach_same State.tanks (fun o => takePart n o .outgoing) (fun _ _ => rfl) _ _

theorem partsTaken_bus? (hb : s.bus? n = some b) :
    (partsTaken n set kind by_ s).bus? n = some (b.accepted set kind by_ s.clock) :=
  (forEach_same (State.bus? · n) (fun o => takePart n o .outgoing) (fun _ _ => rfl) _ _).trans
    (State.bus?_updBus_self hb _)

/-- The set is the incoming one of this bus, also after the supplying one, another, has taken its part. -/
theorem partsTaken_set? {r : SetRec} (hb : s.bus? n = some b) (hr : s.set? set = some r)
    (hout : b.supplying ≠ some set) :
    (partsTaken n set kind by_ s).set? set = some { r with chBus := some n, chRole := some .incoming } := by
  rw [partsTaken, State.busRec_of_find hb]
  refine forEach_induct (fun t => t.set? set = some { r with chBus := some n, chRole := some .incoming }) _ _
    (fun o ho t ht => ?_) _ ?_
  · have hne : set ≠ o := by
      rintro rfl
      exact hout (Option.mem_toList.1 ho)
    exact (State.set?_updSet ..).trans ((if_neg hne).trans ht)
  · exact (State.set?_updSet ..).trans ((if_pos rfl).trans (congrArg _ hr))

/-- With its incoming set not RUNNING the changeover waits in PENDING, its deadlines set and its set ordered. -/
theorem acceptChangeover_waits (hb : s.bus? n = some b) (hr : (s.setRec set).status = .inUse)
    (hout : b.supplying ≠ some set) (hop : (s.setRec set).op ≠ .running) :
    let t := acceptChangeover n set kind by_ s
    (∃ x, t.bus? n = some { b.accepted set kind by_ s.clock with awaited := x, warmUp := some (s.clock + 180) })
    ∧ (∃ r, t.set? set = some r ∧ r.chBus = some n ∧ r.chRole = some .incoming
        ∧ ((s.setRec set).op = .stopped → r.startedByCh = true))
    ∧ t.tanks = s.tanks := by
  have hst : (partsTaken n set kind by_ s).standing = s.standing := partsTaken_standing kind by_
  have hbus := partsTaken_bus? (set := set) kind by_ hb
  have hset := partsTaken_set? kind by_ hb (set?_of_inUse hr) hout
  obtain ⟨x, hx⟩ := orderByOp_bus? (set := set) hbus
  obtain ⟨r, hr', hch, hrole, hstarted⟩ := orderByOp_part (bus := n) hset
  rw [acceptChangeover_eq, startIncoming_of_not_running (by rw [op_of_standing hst]; exact hop) hbus rfl,
    clock_of_standing hst]
  exact ⟨⟨x, State.bus?_updBus_self hx _⟩, ⟨r, hr', hch, hrole, hstarted⟩,
    orderByOp_tanks.trans (partsTaken_tanks kind by_)⟩

end

section
variable {s u : State} {src : Source} {a : Asked} {n set code : Nat} {kind : ChKind}

/-- Past its rights a CHANGEOVER comes to its own checks. -/
theorem execChangeover_of_names (hp : Presents s .changeover src a u) (hn : a.names .buses n)
    (hheld : u.holds .buses n = true) (hreach : a.mayReach .buses n .request u = true) :
    Answers (.changeover src) s a (changeoverOwn a n u) := by
  have hmatched : a.req.matched .changeover = true := hn.matched rfl (by decide) (by decide)
  unfold Answers
  rw [exec, execChangeover, runRequest_of_presents _ hp, hmatched, onRecord_of_names hn hheld hreach]
  rfl

section
variable (hf : a.req.fields = [(1, set), (2, code)]) (hcode : ChKind.ofCode code = some kind)
include hf hcode

/-- The parameters are of the form asked for. -/
theorem changeover_params : a.params.get 1 = some set ∧ (a.params.get 2).bind ChKind.ofCode = some kind
    ∧ a.params.paramsOk 2 = true := by
  rw [Asked.params, hf]
  exact ⟨rfl, hcode, by simp [Fields.paramsOk, Fields.repeats, inRange]⟩

theorem changeoverOwn_refused {x : Answer} (h : changeoverRefusal n set kind a.ring u = some x) :
    changeoverOwn a n u = refuse x u := by
  obtain ⟨hset, hkind, hok⟩ := changeover_params hf hcode
  simp only [changeoverOwn, hset, hkind, hok, if_true, h]

theorem changeoverOwn_accepted (h : changeoverRefusal n set kind a.ring u = none) :
    changeoverOwn a n u = accept .started .buses n (acceptChangeover n set kind a.party u) := by
  obtain ⟨hset, hkind, hok⟩ := changeover_params hf hcode
  simp only [changeoverOwn, hset, hkind, hok, if_true, h]

end

end

end Sys2Proof.Machine

/-! ## SUPPORT. CANCEL_CHANGEOVER on a bus table that lists a number twice (R99, R105) -/

namespace Sys2Proof.Machine

/-- CANCEL_CHANGEOVER of bus 1 at ring 0. -/
def cancelBus1 : Request where
  kind := ReqKind.cancelChangeover.code
  ring := 0
  table := TableId.buses.code
  selector := 0
  index := 1
  fields := []

/-- Bus 1 is listed twice, PENDING without a supplying set: read by its number it has no standby set, and in the entry
behind that it names set 1, which may have it. -/
def busListedTwice : State :=
  { State.reset with
    sets := [(1, { status := .inUse })]
    buses := [(1, { state := .pending }), (1, { state := .pending, standby := some 1 })]
    port := { request := some cancelBus1 } }

/-- The arbiter goes by the second entry, and the write of its EMERGENCY changeover is one to both. -/
theorem cancel_begins_emergency :
    ∃ t, exec (.cancelChangeover .port) busListedTwice = .next t ∧ (t.busRec 1).state = .pending :=
  ⟨_, rfl, by decide⟩

end Sys2Proof.Machine

/-! ## The statements of the supply changeover, settled -/

namespace Sys2Proof.Proofs

open Sys2Proof.Machine

/-- Settles O47: the checks of the model are those of R87 one by one, and past them a set that is not RUNNING leaves the
changeover waiting in PENDING. -/
theorem changeoverRequest : Obligations.ChangeoverRequest := by
  intro s u src a n set code kind b hp hn hf hcode hb hreach i o checks t
  have hans := execChangeover_of_names hp hn (by rw [State.holds, hb]; rfl) hreach
  have hchecks := changeoverRefusal_eq hb set (hcode.imp And.right And.right) a.ring
  have hkind : ChKind.ofCode code = some kind := by rcases hcode with ⟨rfl, rfl⟩ | ⟨rfl, rfl⟩ <;> rfl
  refine ⟨fun x hx => ?_, fun hpass => ⟨?_, fun hop => ?_⟩⟩
  · rwa [changeoverOwn_refused hf hkind (hchecks.trans hx)] at hans
  · rwa [changeoverOwn_accepted hf hkind (hchecks.trans hpass)] at hans
  · obtain ⟨huse, hout⟩ := inUse_of_changeoverChecks hpass
    obtain ⟨⟨x, hbus⟩, ⟨r, hr, hch, hrole, hstarted⟩, htanks⟩ :=
      acceptChangeover_waits kind a.party hb huse hout hop
    have hm : Moves [n] u t := acceptChangeover_moves kind a.party
    have hrec : t.setRec set = r := State.setRec_of_find hr
    have hbrec : t.busRec n = _ := State.busRec_of_find hbus
    rw [hrec, hbrec]
    exact ⟨rfl, rfl, rfl, rfl, rfl, rfl, rfl, hch, hrole, hstarted, hm.feeders, accounts_of_standing hm.standing,
      htanks⟩

/-- Refutes O48: it does not ask that the bus table be in canonical form. With bus 1 listed twice (`busListedTwice`) the
record its number reads as has no supplying set, no queued mark and no standby set, so the statement has it LOST after
the abort; the arbiter finds the standby set that the other entry names, and leaves it PENDING. -/
theorem not_cancelChangeover : ¬ Obligations.CancelChangeover := by
  intro h
  obtain ⟨-, hright⟩ := h busListedTwice busListedTwice .port ⟨.port, 0, cancelBus1⟩ 1 { state := .pending }
    ⟨rfl, rfl⟩ ⟨rfl, rfl, rfl, by decide⟩ rfl rfl rfl
  obtain ⟨-, -, habort⟩ := hright (.inl rfl)
  obtain ⟨t, hans, -, -, -, hlost, -⟩ := habort (.inl rfl)
  have hbus := hlost rfl rfl (.inl rfl)
  obtain ⟨v, hv, hpending⟩ := cancel_begins_emergency
  cases hv.symm.trans hans
  have hread : (t.busRec 1).state = .pending := hpending
  rw [State.busRec_of_find hbus] at hread
  cases hread

/-- Settles O49: each abort gives the bus back to its RUNNING supplying set, and from CLOSING_IN the record of the bus
alone says that it is in doubt. -/
theorem changeoverDeadlines : Obligations.ChangeoverDeadlines := by
  intro s n b hres hb aborted
  have back (reason : AbortReason) {c : Instr} (hstate : b.state = .pending ∨ b.state = .syncing)
      (hc : exec c s = .next (conclude (abortBack n reason s))) : aborted reason.code c := by
    refine ⟨_, hc, fun o ho hrun => ?_⟩
    have h := conclude_abortBack hb hstate ho hrun reason
    exact ⟨h.bus, h.supplies, h.feeders, h.told⟩
  refine ⟨fun d hle => ⟨fun hstate hd => ?_, fun hstate hd => ?_, fun hstate hd => ?_, fun hstate hd => ?_⟩,
    fun h => ?_, fun h => ?_, fun h => ?_⟩
  · exact back .warmupTimeout (.inl hstate) (by rw [exec_warmUpDeadline hres, warmUpEnds_of_reached hb hstate hd hle])
  · exact back .fuelWaitTimeout (.inl hstate)
      (by rw [exec_fuelWaitDeadline hres, fuelWaitEnds_of_reached hb hstate hd hle])
  · exact back .syncTimeout (.inr hstate)
      (by rw [exec_phaseDeadline hres, phaseEnds_of_reached hb hd hle, phaseExpires_syncing hb hstate])
  · obtain ⟨⟨id, hbus⟩, hsets, hfeeders⟩ := enterUncertain_closingIn hb hstate
    rw [exec_phaseDeadline hres, phaseEnds_of_reached hb hd hle, phaseExpires_closingIn hb hstate]
    refine ⟨_, rfl, ?_⟩
    rw [State.busRec_of_find hbus]
    exact ⟨rfl, rfl, rfl, rfl, rfl, rfl, rfl, hsets, hfeeders⟩
  · rw [exec_warmUpDeadline hres, warmUpEnds_of_not_reached hb h]
  · rw [exec_fuelWaitDeadline hres, fuelWaitEnds_of_not_reached hb h]
  · rw [exec_phaseDeadline hres, phaseEnds_of_not_reached hb h]

/-- Settles O50: with endurance enough CLOSING_IN is one write to the bus and one to the set; with less the abort gives
the bus back to its RUNNING supplying set. -/
theorem syncOk : Obligations.SyncOk := by
  intro s u slot node hrep
  rw [exec_syncOk_of_reports hrep]
  refine ⟨fun h => by rw [takeSyncOk_unmatched h], fun i hi => ⟨fun h => by rw [takeSyncOk_ignored hi h], ?_⟩⟩
  intro n b r hr hch hb hstate hinc
  rw [takeSyncOk_awaited hi ((congrArg SetRec.chBus (State.setRec_of_find hr)).trans hch) hb hstate hinc]
  refine ⟨fun henough => ?_, fun hshort => ?_⟩
  · rw [if_neg (Nat.not_lt.2 henough)]
    have hbus : (closeIn n i u).bus? n = some (b.closesIn u.clock u.nextId) := by
      rw [State.bus?, closeIn_buses, Tbl.find_upd_self]
      exact congrArg _ hb
    have hset : (closeIn n i u).set? i = some { r with supplies := r.supplies + 1 } := by
      rw [State.set?, closeIn_sets, Tbl.find_upd_self]
      exact congrArg _ hr
    refine ⟨_, rfl, ?_⟩
    rw [State.busRec_of_find hbus]
    refine ⟨rfl, rfl, rfl, hinc, hset, fun m hm => ?_, fun m hm => ?_, rfl, rfl⟩
    · rw [State.set?, closeIn_sets, Tbl.find_upd_ne _ _ hm]; rfl
    · rw [State.bus?, closeIn_buses, Tbl.find_upd_ne _ _ hm]; rfl
  · rw [if_pos hshort]
    refine ⟨_, rfl, fun o ho hrun => ?_⟩
    have h := conclude_abortBack hb (.inr hstate) ho hrun .enduranceShort
    rw [State.busRec_of_find h.bus]
    exact ⟨rfl, ho, rfl, h.feeders⟩

/-- Settles O52: of the positions that stand for the named set its own alone is closed, so the bus returns to it, and
what follows moves neither the bus, STEADY now, nor a count nor a feeder. -/
theorem confirmSupply : Obligations.ConfirmSupply := by
  intro s u src a n set b hp hn hf hb
  refine ⟨fun hring => by simpa only [if_neg hring] using execConfirmSupply_of_names hp hn, fun hring => ?_⟩
  have hans := execConfirmSupply_of_set hp hn hring (by rw [State.holds, hb]; rfl) hf
  refine ⟨fun hstate => ?_, fun hstate hcable => ?_, fun hstate hcable hx hinc => ?_,
    fun inc hstate hcable hx hinc hne hrun => ?_⟩
  · rwa [confirmSupply_settled hb hstate, acceptOr_refused (by decide)] at hans
  · rwa [confirmSupply_notCabled hb hstate hcable, acceptOr_refused (by decide)] at hans
  · rwa [confirmSupply_neither hb hstate hcable hx hinc, acceptOr_refused (by decide)] at hans
  · rw [confirmSupply_supplying hb hstate hcable hx hinc hne, acceptOr_done] at hans
    exact ⟨_, hans, conclude_resolveBack hb hrun hne⟩

end Sys2Proof.Proofs

/-! ## SUPPORT. Delivery contexts: requests on them, orders to the bowser, suspension and resumption -/

namespace Sys2Proof.Machine

/-! ### Updates of a context -/

section
variable (n : Nat) (s : State)

theorem State.updCtx_updCtx (f g : Ctx → Ctx) : (s.updCtx n f).updCtx n g = s.updCtx n (fun c => g (f c)) := by
  unfold State.updCtx; split <;> rfl

variable {n s}

/-- An update of a context is its value on the context that stands there. -/
theorem State.updCtx_congr {f g : Ctx → Ctx} (h : f (s.ctx n) = g (s.ctx n)) : s.updCtx n f = s.updCtx n g := by
  unfold State.ctx at h
  unfold State.updCtx
  split
  next hn => rw [if_pos hn] at h; exact congrArg (fun c => { s with ctx1 := c }) h
  next hn => rw [if_neg hn] at h; exact congrArg (fun c => { s with ctx2 := c }) h

end

@[simp] theorem State.tankRec_updCtx (s : State) (n tank : Nat) (f : Ctx → Ctx) :
    (s.updCtx n f).tankRec tank = s.tankRec tank := by
  rw [State.tankRec, State.tank?, State.updCtx_tanks]; rfl

@[simp] theorem State.tankTouched_updCtx (s : State) (n tank : Nat) (f : Ctx → Ctx) :
    (s.updCtx n f).tankTouched tank = s.tankTouched tank := by
  unfold State.updCtx; split <;> rfl

/-! ### Requests on a record (R174) -/

/-- A request whose ring is admitted and that names a record of the table of its kind comes to checks 5 to 7. -/
theorem runRequest_of_names {k : ReqKind} {t : TableId} {n : Nat} {s u : State} {src : Source} {a : Asked}
    (own : Asked → State → Answered) (hp : Presents s k src a u) (hn : a.names t n)
    (hk : k.appliesTo (some t) = true) (hfind : k ≠ .find) (htake : k ≠ .takeNotice)
    (hring : ringAdmits k (some t) a.ring = true) : runRequest k own src s = deliver a.party (own a u) := by
  rw [runRequest_of_presents own hp, hn.matched hk hfind htake, hn.1, TableId.ofCode_code, hring]
  rfl

section
variable {s u : State} {src : Source} {a : Asked} {n : Nat} {k : ReqKind} {c : Instr}
  (hn : a.names .deliveries n) (hctx : n = 1 ∨ n = 2) (hf : a.req.fields = [])
  (hr : a.mayReach .deliveries n .request u = true)
include hn hctx hf hr

/-- A request of the contexts without parameters, its right passed, comes to its own checks. -/
theorem answers_on_ctx (own : Nat → State → Answered) (hp : Presents s k src a u)
    (hc : exec c s = .next (runRequest k (fun a => operate a .deliveries own) src s))
    (hk : k.table = some .deliveries) : Answers c s a (own n u) := by
  have happlies : k.appliesTo (some .deliveries) = true := by
    cases k <;> simp_all [ReqKind.table, ReqKind.appliesTo]
  have hadmits : ringAdmits k (some .deliveries) a.ring = true := by
    cases k <;> simp_all [ReqKind.table, ringAdmits]
  have hown : operate a .deliveries own u = own n u := by
    rw [operate, onRecord_of_names hn (decide_eq_true hctx) hr, Asked.params, hf]
    rfl
  rw [Answers, hc, runRequest_of_names _ hp hn happlies (by rintro rfl; cases hk) (by rintro rfl; cases hk) hadmits,
    hown]

/-- One that answers with the outcome of an operation that may refuse. -/
theorem answers_acceptOr_on_ctx (op : Nat → State → State × Answer) (hp : Presents s k src a u)
    (hc : exec c s = .next (runRequest k (fun a => operate a .deliveries (fun m t =>
      acceptOr .deliveries m (op m t))) src s))
    (hk : k.table = some .deliveries) : Answers c s a (acceptOr .deliveries n (op n u)) :=
  answers_on_ctx hn hctx hf hr (fun m t => acceptOr .deliveries m (op m t)) hp hc hk

end

/-! ### Orders to the bowser -/

/-- The state with an ORDER offered to the bowser of context `n`, its payload given. -/
def toBowser (n kind : Nat) (payload : List Byte) (p : Purpose) (s : State) : State :=
  { s with
    nextId := s.nextId + 1
    line := s.line.offerOrder
      { id := s.nextId, cls := .order, dest := (s.ctx n).bowser.getD 0, kind, payload, purpose := p } }

theorem orderBowser_eq (n kind : Nat) (p : Purpose) (s : State) : orderBowser n kind p s = toBowser n kind [] p s :=
  rfl

theorem orderFill_eq (n ml : Nat) (s : State) : orderFill n ml s = toBowser n 43
    (beBytes 4 (s.tankRec ((s.ctx n).currentTank.getD 0)).tag ++ beBytes 4 ml)
    (.fill n (s.ctx n).serial ((s.ctx n).current.getD 0)) s := rfl

/-- An order sent after an update that keeps the bowser is that update with the order offered beside it. -/
theorem toBowser_updCtx {f : Ctx → Ctx} {n : Nat} {s : State} (hf : (f (s.ctx n)).bowser = (s.ctx n).bowser)
    (kind : Nat) (payload : List Byte) (p : Purpose) : toBowser n kind payload p (s.updCtx n f) =
      { s.updCtx n f with
        nextId := s.nextId + 1
        line := s.line.offerOrder
          { id := s.nextId, cls := .order, dest := (s.ctx n).bowser.getD 0, kind, payload, purpose := p } } := by
  simp only [toBowser, State.ctx_updCtx, hf, State.updCtx_nextId, State.updCtx_line]

/-! ### SUSPEND_DELIVERY (R128) -/

/-- The fields of a context whose flow is suspended (R128, R130). -/
def Ctx.flowSuspended (now : Nat) (c : Ctx) : Ctx :=
  { c with
    state := .suspending
    settle := some (now + 15)
    fill := none
    fillLeft := (c.fill.map (· - now)).or c.fillLeft }

theorem suspendFlow_eq (n : Nat) (s : State) : suspendFlow n s =
    toBowser n 44 [] (.valveShut n (s.ctx n).serial) (s.updCtx n (Ctx.flowSuspended s.clock)) := by
  have hfields : s.updCtx n (fun c =>
      { (c.pauseFill s.clock) with state := .suspending, settle := some (s.clock + Config.settleTime) })
      = s.updCtx n (Ctx.flowSuspended s.clock) := by
    refine State.updCtx_congr ?_
    unfold Ctx.pauseFill Ctx.flowSuspended
    cases hfill : (s.ctx n).fill with
    | none => simp [hfill, Config.settleTime]
    | some d => rfl
  rw [suspendFlow, hfields]
  rfl

section
variable {n : Nat} {s : State}

theorem suspendDelivery_gathering (h : (s.ctx n).state = .gathering) :
    suspendDelivery n s = (voidDelivery n s, .done) := by rw [suspendDelivery, h]
theorem suspendDelivery_dispensing (h : (s.ctx n).state = .dispensing) :
    suspendDelivery n s = (suspendFlow n (s.updCtx n (fun c => { c with byRequest := true })), .done) := by
  rw [suspendDelivery, h]
theorem suspendDelivery_paused (h : (s.ctx n).state = .suspending ∨ (s.ctx n).state = .suspended) :
    suspendDelivery n s = (s.updCtx n (fun c => { c with byRequest := true }), .done) := by
  rcases h with h | h <;> rw [suspendDelivery, h]
theorem suspendDelivery_refused
    (h : (s.ctx n).state = .idle ∨ (s.ctx n).state = .stalled ∨ (s.ctx n).state = .done) :
    suspendDelivery n s = (s, .wrongState) := by
  rcases h with h | h | h <;> rw [suspendDelivery, h]

/-! ### RESUME_DELIVERY (R125, R126, R128) -/

theorem resumeDelivery_unchanged
    (h : (s.ctx n).state = .idle ∨ (s.ctx n).state = .gathering ∨ (s.ctx n).state = .dispensing) :
    resumeDelivery n s = (s, .done) := by
  rcases h with h | h | h <;> rw [resumeDelivery, h]
theorem resumeDelivery_refused (h : (s.ctx n).state = .suspending ∨ (s.ctx n).state = .done) :
    resumeDelivery n s = (s, .wrongState) := by
  rcases h with h | h <;> rw [resumeDelivery, h]
theorem resumeDelivery_suspended (h : (s.ctx n).state = .suspended) :
    resumeDelivery n s = (resumeIfFree n (s.updCtx n (fun c => { c with byRequest := false })), .done) := by
  rw [resumeDelivery, h]
theorem resumeDelivery_stalled (h : (s.ctx n).state = .stalled) :
    resumeDelivery n s = (resumeStalled n s, .done) := by rw [resumeDelivery, h]

/-- A suspend cause keeps a context from resuming. -/
theorem resumeIfFree_of_cause (h : (s.ctx n).byRequest = true ∨ (s.ctx n).byChangeover = true) :
    resumeIfFree n s = s := by
  rcases h with h | h <;> simp [resumeIfFree, h]

theorem resumeIfFree_of_free (hs : (s.ctx n).state = .suspended) (hreq : (s.ctx n).byRequest = false)
    (hch : (s.ctx n).byChangeover = false) : resumeIfFree n s = resume n s := by
  simp [resumeIfFree, hs, hreq, hch]

/-- A FILLING nomination not halted resumes by its valve, its fill deadline running again (R126). -/
theorem resume_filling {m : Nomination} (hnom : (s.ctx n).currentNom = some m) (hm : m.status = .filling)
    (hhalt : (s.ctx n).haltSent = false) : resume n s =
      toBowser n 45 [] (.valveOpen n (s.ctx n).serial ((s.ctx n).current.getD 0))
        (s.updCtx n (fun c => { c with
          state := .dispensing, fill := some (s.clock + c.fillLeft.getD 0), fillLeft := none })) := by
  simp only [resume, hnom, hm, hhalt, State.updCtx_updCtx]
  rfl

/-- A changeover cause keeps a STALLED context suspended, with the fill time of a new fill (R125; log 72). -/
theorem resumeStalled_waits (hch : (s.ctx n).byChangeover = true) (hstart : (s.ctx n).started = false) :
    resumeStalled n s = s.updCtx n (fun c =>
      { c with byRequest := false, state := .suspended, fillLeft := some 1200 }) := by
  rw [resumeStalled, if_pos hch]
  dsimp only
  rw [State.updCtx_updCtx]
  exact State.updCtx_congr (by rw [hstart]; rfl)

end

end Sys2Proof.Machine

/-! ## SUPPORT. Taking up a nomination, and the deadlines of a context (R119, R120, R124, R129) -/

namespace Sys2Proof.Machine

/-! ### Taking up the first nomination (R120) -/

/-- A nomination with a target to fill, given or computed. -/
theorem fillTarget_of_positive {m : Nomination} {t : TankRec} {v : Nat}
    (h : m.target = some v ∨ (m.target = none ∧ 0 < v ∧ v = t.capacity * 95 / 100 - t.level)) :
    m.nothingToFill t = false ∧ fillTarget m t = v := by
  rcases h with h | ⟨h, hpos, hv⟩
  · simp [Nomination.nothingToFill, fillTarget, h]
  · have hroom : t.level < t.capacity * 95 / 100 := by omega
    simp [Nomination.nothingToFill, fillTarget, h, hroom, hv]

section
variable {s : State} {n : Nat} {m : Nomination}

theorem takeUpNext_first (hm : (s.ctx n).noms.head? = some m) (hw : m.status = .waiting)
    (hfill : m.nothingToFill (s.tankRec m.tank) = false) : takeUpNext n s = makeCurrent n 1 m s := by
  obtain ⟨rest, hrest⟩ := List.head?_eq_some_iff.1 hm
  rw [takeUpNext, hrest, List.length_cons, List.range'_succ, takeUpFrom, hrest]
  simp [hw, hfill]

/-- In DISPENSING with no cause the nomination taken up is filled: FILL goes to the bowser (R120). -/
theorem makeCurrent_fills {k : Nat} (hk : (s.ctx n).noms[k - 1]? = some m) (hstate : (s.ctx n).state = .dispensing)
    (hreq : (s.ctx n).byRequest = false) (htouch : s.tankTouched m.tank = false) :
    let v := fillTarget m (s.tankRec m.tank)
    makeCurrent n k m s =
      toBowser n 43 (beBytes 4 (s.tankRec m.tank).tag ++ beBytes 4 v) (.fill n (s.ctx n).serial k)
        (s.updCtx n (fun c => { c with
          state := .dispensing, current := some k, byChangeover := false
          noms := c.noms.modify (k - 1) (fun y => { y with target := some v }) })) := by
  intro v
  simp [makeCurrent, actOnTakenUp, hstate, hreq, htouch, orderFill_eq, State.updCtx_updCtx, Ctx.currentTank,
    Ctx.currentNom, hk, v]

/-! ### The deadlines -/

theorem exec_deadline_held (h : s.resetHeld = true) (n : Nat) :
    exec (.gatheringDeadline n) s = .next s ∧ exec (.fillDeadline n) s = .next s
      ∧ exec (.settleDeadline n) s = .next s := by
  have hheld (f : State → State) : unlessHeld f s = s := unlessHeld_held h
  exact ⟨congrArg _ (hheld _), congrArg _ (hheld _), congrArg _ (hheld _)⟩

section
variable (hres : s.resetHeld = false)
include hres

theorem exec_gatheringDeadline (n : Nat) : exec (.gatheringDeadline n) s = .next (gatheringEnds n s) :=
  congrArg Host.Outcome.next (unlessHeld_free hres)
theorem exec_fillDeadline (n : Nat) : exec (.fillDeadline n) s = .next (fillEnds n s) :=
  congrArg Host.Outcome.next (unlessHeld_free hres)
theorem exec_settleDeadline (n : Nat) : exec (.settleDeadline n) s = .next (settleEnds n s) :=
  congrArg Host.Outcome.next (unlessHeld_free hres)

end

theorem gatheringEnds_of_not_reached (h : ∀ d, (s.ctx n).gathering = some d → s.clock < d) :
    gatheringEnds n s = s := by simp [gatheringEnds, reached_of_none_due h]
theorem fillEnds_of_not_reached (h : ∀ d, (s.ctx n).fill = some d → s.clock < d) : fillEnds n s = s := by
  simp [fillEnds, reached_of_none_due h]
theorem settleEnds_of_not_reached (h : ∀ d, (s.ctx n).settle = some d → s.clock < d) : settleEnds n s = s := by
  simp [settleEnds, reached_of_none_due h]

variable {d : Nat} (hctx : n = 1 ∨ n = 2)
include hctx

theorem gatheringEnds_of_reached (hstate : (s.ctx n).state = .gathering) (hd : (s.ctx n).gathering = some d)
    (hle : d ≤ s.clock) : gatheringEnds n s =
      takeUpNext n (s.updCtx n (fun c => { c with state := .dispensing, gathering := none })) := by
  rw [gatheringEnds, hd, if_pos ⟨hctx, hstate, reached_of_le hle⟩]

theorem fillEnds_of_reached (hstate : (s.ctx n).state = .dispensing) (hd : (s.ctx n).fill = some d)
    (hle : d ≤ s.clock) : fillEnds n s =
      stall n (s.updCtx n (Ctx.updCurrent (fun m => { m with status := .overrun }))) := by
  rw [fillEnds, hd, if_pos ⟨hctx, hstate, reached_of_le hle⟩]

theorem settleEnds_of_reached (hstate : (s.ctx n).state = .suspending) (hd : (s.ctx n).settle = some d)
    (hle : d ≤ s.clock) : settleEnds n s = endSuspending n s := by
  rw [settleEnds, hd, if_pos ⟨hctx, hstate, reached_of_le hle⟩]

end

/-- With a cause held the end of SUSPENDING leaves the context SUSPENDED (R129). -/
theorem endSuspending_of_cause {n : Nat} {s : State}
    (h : (s.ctx n).byRequest = true ∨ (s.ctx n).byChangeover = true) :
    endSuspending n s = s.updCtx n (fun c => { c with state := .suspended, settle := none }) :=
  resumeIfFree_of_cause (by simpa using h)

/-! ### A stall (R124) -/

/-- Changing the current nomination leaves all but the nominations. -/
theorem Ctx.updCurrent_eq (f : Nomination → Nomination) (c : Ctx) :
    ∃ noms, c.updCurrent f = { c with noms } := by
  unfold Ctx.updCurrent; split <;> exact ⟨_, rfl⟩

/-- A stall after an update that keeps the bowser and the progress count is that update with HALT_FILL offered and
DELIVERY_STALLED raised beside it. -/
theorem stall_updCtx {f : Ctx → Ctx} {n : Nat} {s : State} (hb : (f (s.ctx n)).bowser = (s.ctx n).bowser)
    (hp : (f (s.ctx n)).progress = (s.ctx n).progress) : stall n (s.updCtx n f) =
      { s.updCtx n (fun c => { f c with
          state := .stalled, haltSent := true, fill := none, fillLeft := none, settle := none }) with
        nextId := s.nextId + 1
        line := s.line.offerOrder
          { id := s.nextId, cls := .order, dest := (s.ctx n).bowser.getD 0, kind := 46, payload := []
            purpose := .nothing }
        port := Port.append { kind := .deliveryStalled, table := .deliveries, index := n
                              value := some (s.ctx n).progress, time := s.clock } s.port } := by
  unfold stall
  rw [orderBowser_eq, State.ctx_updCtx, hp, toBowser_updCtx hb]
  unfold raise State.onPort State.updCtx
  split <;> rfl

end Sys2Proof.Machine
/-! ## SUPPORT. A fuel credit, and what the start of switching may move of a context (R33, R131) -/

namespace Sys2Proof.Machine

/-! ### A fuel credit writes one tank (R33) -/

theorem Port.append_notices_length (m : Notice) (p : Port) :
    (p.append m).notices.length ≤ p.notices.length + 1 := by
  rcases p.append_cases m with ⟨-, -, h⟩ | ⟨-, h⟩ | ⟨-, -, h⟩ <;> rw [h] <;> simp

/-- A notice of a kind that does not coalesce is queued, or sets the overflow mark (R195). -/
theorem Port.mem_append_or_overflow {m : Notice} (hk : m.kind.coalesces = false) (p : Port) :
    m ∈ (p.append m).notices ∨ (p.append m).overflow = true := by
  rcases p.append_cases m with ⟨h, -⟩ | ⟨-, h⟩ | ⟨-, -, h⟩
  · rw [hk] at h; cases h
  · exact .inr (by rw [h])
  · exact .inl (by rw [h]; simp)

theorem evalLowMark_notices (n : Nat) (s : State) :
    (evalLowMark n s).port.notices.length ≤ s.port.notices.length + 1 := by
  unfold evalLowMark
  split
  · exact Nat.le_succ _
  · split_ifs
    · exact Port.append_notices_length ..
    · exact Nat.le_succ _
    · exact Nat.le_succ _

/-- What a fuel credit of tank `n` writes to the tanks, before the PENDING changeovers are evaluated. -/
def creditLevel (n ml : Nat) (s : State) : State :=
  recomputeTank n (s.updTank n (fun t => { t.credited ml s.clock with gaugeDeferred := false }))

theorem creditFuel_eq (n ml : Nat) (s : State) :
    creditFuel n ml s = askLevel n (evaluateForTank n (creditLevel n ml s)) := rfl

theorem creditLevel_written (n ml : Nat) (s : State) :
    ∃ b, TankWritten n (fun r => { r.credited ml s.clock with
        gaugeDeferred := false
        endurance := enduranceOf (min (r.level + ml) r.capacity) (s.tankRate n), lowMark := b }) s
      (creditLevel n ml s) := by
  obtain ⟨b, hb⟩ := recomputeTank_written n
    (s.updTank n (fun t => { t.credited ml s.clock with gaugeDeferred := false }))
  exact ⟨b, (updTank_written n _ s).trans hb⟩

/-- ASK_LEVEL is offered, or finds no entry (R37). -/
theorem askLevel_line (n : Nat) (s : State) : ∃ nextId line, askLevel n s = { s with nextId, line } := by
  unfold askLevel
  split
  next g _ =>
    rcases offerQuery_cases g Kind.askLevel (.askLevel n (s.tankRec n).serial) false s with
      ⟨-, q, h⟩ | ⟨-, h⟩ <;> rw [h] <;> exact ⟨_, _, rfl⟩
  next => exact ⟨_, _, rfl⟩

/-- What follows the tank's own fields writes buses, contexts and the line alone. -/
theorem creditFuel_beside (n ml : Nat) (s : State) :
    (creditFuel n ml s).besideTransfer = (creditLevel n ml s).besideTransfer := by
  obtain ⟨nextId, line, h⟩ := askLevel_line n (evaluateForTank n (creditLevel n ml s))
  rw [creditFuel_eq, h, ← evaluateForTank_beside (creditLevel n ml s) n]
  rfl

/-- Tank `q`, its record `r` before, has been credited with `ml` at the second of `s`, and no other tank is written
(R33). -/
structure FuelCredited (q ml : Nat) (r : TankRec) (s t : State) : Prop where
  level : (t.tankRec q).level = min (r.level + ml) r.capacity
  overfill : (t.tankRec q).overfill = min (r.overfill + (r.level + ml - r.capacity)) 4294967295
  variance : (t.tankRec q).variance = 0
  lastFill : (t.tankRec q).lastFill = some s.clock
  filling : (t.tankRec q).filling = false
  shortfall : (t.tankRec q).shortfall = r.shortfall
  others : ∀ x, x ≠ q → t.tank? x = s.tank? x

/-- The tanks and the clock alone say that a tank has been credited. -/
theorem FuelCredited.congr {q ml : Nat} {r : TankRec} {s s' t t' : State} (h : FuelCredited q ml r s t)
    (ht : t'.tanks = t.tanks) (hs : s'.tanks = s.tanks) (hclock : s'.clock = s.clock) :
    FuelCredited q ml r s' t' := by
  have hfind (x : Nat) : t'.tank? x = t.tank? x := congrArg (Tbl.find · x) ht
  have hrec : t'.tankRec q = t.tankRec q := congrArg (fun x : Option TankRec => x.getD {}) (hfind q)
  have hold (x : Nat) : s'.tank? x = s.tank? x := congrArg (Tbl.find · x) hs
  exact ⟨hrec ▸ h.level, hrec ▸ h.overfill, hrec ▸ h.variance, by rw [hrec, hclock]; exact h.lastFill,
    hrec ▸ h.filling, hrec ▸ h.shortfall, fun x hx => by rw [hfind, hold, h.others x hx]⟩

theorem creditFuel_credited {q : Nat} {r : TankRec} {s : State} (hr : s.tank? q = some r) (ml : Nat) :
    FuelCredited q ml r s (creditFuel q ml s) := by
  obtain ⟨b, hw⟩ := creditLevel_written q ml s
  have hrec := State.tankRec_of_find (hw.self hr)
  have hlevel : FuelCredited q ml r s (creditLevel q ml s) :=
    ⟨congrArg TankRec.level hrec, congrArg TankRec.overfill hrec, congrArg TankRec.variance hrec,
      congrArg TankRec.lastFill hrec, congrArg TankRec.filling hrec, (congrArg TankRec.shortfall hrec :),
      fun _ => hw.others⟩
  exact hlevel.congr (same_of_beside (creditFuel_beside q ml s) State.tanks (fun _ => rfl)) rfl rfl

/-- A fuel credit raises LOW_FUEL at most. -/
theorem creditFuel_notices (n ml : Nat) (s : State) :
    (creditFuel n ml s).port.notices.length ≤ s.port.notices.length + 1 := by
  rw [same_of_beside (creditFuel_beside n ml s) State.port (fun _ => rfl)]
  exact evalLowMark_notices n _

/-! ### What the start of switching moves of a context (R130, R131) -/

/-- A context without its state, changeover cause, fill and settle times. -/
def Ctx.besideFlow (c : Ctx) : Ctx :=
  { c with state := .idle, byChangeover := false, fill := none, fillLeft := none, settle := none }

/-- From `c` to `d` the flow may have been suspended: nothing of the delivery itself is written, and the state only
where it was DISPENSING. -/
structure Ctx.Flows (c d : Ctx) : Prop where
  beside : d.besideFlow = c.besideFlow
  state : c.state ≠ .dispensing → d.state = c.state

theorem Ctx.Flows.refl (c : Ctx) : c.Flows c := ⟨rfl, fun _ => rfl⟩

theorem Ctx.Flows.trans {c d e : Ctx} (h : c.Flows d) (h' : d.Flows e) : c.Flows e :=
  ⟨h'.beside.trans h.beside, fun hc => (h'.state (h.state hc ▸ hc)).trans (h.state hc)⟩

theorem Ctx.Flows.noms {c d : Ctx} (h : c.Flows d) : d.noms = c.noms := (congrArg Ctx.noms h.beside :)
theorem Ctx.Flows.haltSent {c d : Ctx} (h : c.Flows d) : d.haltSent = c.haltSent := (congrArg Ctx.haltSent h.beside :)

/-- What a context is at the end of its delivery does not depend on its flow (R134, R135). -/
theorem Ctx.Flows.finished {c d : Ctx} (h : c.Flows d) (o : DocketOutcome) (now : Nat) :
    d.skipWaiting.finished o now = c.skipWaiting.finished o now :=
  congrArg (fun x => Ctx.finished o now x.skipWaiting) h.beside

section
variable (s : State) (n bus tank m : Nat)

theorem updCtx_flows {f : Ctx → Ctx} (h : (s.ctx n).Flows (f (s.ctx n))) :
    (s.ctx m).Flows ((s.updCtx n f).ctx m) := by
  by_cases hm : (m = 1) = (n = 1)
  · have hsame (t : State) : t.ctx m = t.ctx n := by simp only [State.ctx, hm]
    rw [hsame, hsame, State.ctx_updCtx]
    exact h
  · rw [State.ctx_updCtx_ne _ _ _ hm]
    exact .refl _

theorem placeChangeover_flows : (s.ctx m).Flows ((placeChangeover n s).ctx m) := by
  unfold placeChangeover
  dsimp only
  split
  next h =>
    rw [suspendFlow_eq, State.updCtx_updCtx]
    exact updCtx_flows s n m ⟨rfl, fun hne => absurd h hne⟩
  next => exact updCtx_flows s n m ⟨rfl, fun _ => rfl⟩

theorem switchingBegins_flows (sets : List Nat) : (s.ctx m).Flows ((switchingBegins sets s).ctx m) := by
  refine forEach_induct (fun t => (s.ctx m).Flows (t.ctx m)) _ _ (fun n _ t ht => ?_) s (.refl _)
  split
  · exact ht.trans (placeChangeover_flows t n m)
  · exact ht

theorem leavePending_flows : (s.ctx m).Flows ((leavePending bus s).ctx m) := by
  unfold leavePending
  dsimp only
  refine Ctx.Flows.trans ?_ (switchingBegins_flows _ m _)
  split <;> exact .refl _

theorem evaluateForTank_flows : (s.ctx m).Flows ((evaluateForTank tank s).ctx m) := by
  refine forEach_induct (fun t => (s.ctx m).Flows (t.ctx m)) _ _ (fun b _ t ht => ?_) s (.refl _)
  split
  · refine ht.trans ?_
    unfold evaluatePending
    split
    · exact leavePending_flows t b m
    · exact .refl _
  · exact ht

theorem creditFuel_flows (ml : Nat) : (s.ctx m).Flows ((creditFuel tank ml s).ctx m) := by
  obtain ⟨b, hw⟩ := creditLevel_written tank ml s
  obtain ⟨tanks, port, hlevel⟩ := hw.rest
  obtain ⟨nextId, line, hask⟩ := askLevel_line tank (evaluateForTank tank (creditLevel tank ml s))
  rw [creditFuel_eq, hask, hlevel]
  exact evaluateForTank_flows { s with tanks, port } tank m

end

/-! ### The current nomination credited (R123, R127, R134) -/

section
variable {c : Ctx} {k start : Nat} {m : Nomination}

theorem Ctx.updCurrent_of_current (h : c.current = some k) (f : Nomination → Nomination) :
    c.updCurrent f = { c with noms := c.noms.modify (k - 1) f } := by
  rw [Ctx.updCurrent, h]

theorem Ctx.nom_of_current (h : c.current = some k) (hnom : c.currentNom = some m) : c.noms[k - 1]? = some m := by
  rwa [Ctx.currentNom, h] at hnom

theorem Ctx.started_of_start (hnom : c.currentNom = some m) (hstart : m.startMeter = some start) :
    c.started = true := by
  rw [Ctx.started, hnom, Option.bind_some, hstart]; rfl

theorem Ctx.not_started (hnom : c.currentNom = some m) (hstart : m.startMeter = none) : c.started = false := by
  rw [Ctx.started, hnom, Option.bind_some, hstart]; rfl

theorem Ctx.running_of_start (hnom : c.currentNom = some m) (hstart : m.startMeter = some start)
    (hm : m.status = .filling ∨ m.status = .overrun) : c.running = true := by
  rw [Ctx.running, Ctx.started_of_start hnom hstart, hnom]
  exact decide_eq_true hm

theorem Ctx.start_of_running (h : c.running = true) :
    ∃ m, c.currentNom = some m ∧ ∃ start, m.startMeter = some start := by
  have hstarted : c.started = true := (Bool.and_eq_true_iff.1 h).1
  rw [Ctx.started, Option.isSome_iff_exists] at hstarted
  obtain ⟨start, hstart⟩ := hstarted
  obtain ⟨m, hnom, hstart⟩ := Option.bind_eq_some_iff.1 hstart
  exact ⟨m, hnom, start, hstart⟩

theorem Ctx.metered_of_start (hnom : c.currentNom = some m) (hstart : m.startMeter = some start) :
    c.metered = c.lastMeter - start := by
  rw [Ctx.metered, hnom, Option.bind_some, hstart]; rfl

end

theorem creditCurrent_notices (n : Nat) (st : NomStatus) (s : State) :
    (creditCurrent n st s).port.notices.length ≤ s.port.notices.length + 1 :=
  (creditFuel_notices ..).trans_eq (congrArg (fun p => p.notices.length + 1) (State.updCtx_port ..))

/-- The credit that follows moves the context's flow at most. -/
theorem creditCurrent_flows (n : Nat) (st : NomStatus) (s : State) :
    ((s.ctx n).updCurrent (fun m => { m with status := st, delivered := (s.ctx n).metered })).Flows
      ((creditCurrent n st s).ctx n) := by
  have h := creditFuel_flows (s.updCtx n (Ctx.updCurrent (fun m =>
    { m with status := st, delivered := (s.ctx n).metered }))) ((s.ctx n).currentTank.getD 0) n (s.ctx n).metered
  rwa [State.ctx_updCtx] at h

section
variable {s : State} {n k start : Nat} {m : Nomination} (hnom : (s.ctx n).currentNom = some m)
  (hstart : m.startMeter = some start) (st : NomStatus)
include hnom hstart

theorem creditCurrent_nom (hcur : (s.ctx n).current = some k) : ((creditCurrent n st s).ctx n).noms[k - 1]? =
    some { m with status := st, delivered := (s.ctx n).lastMeter - start } := by
  rw [(creditCurrent_flows n st s).noms, Ctx.updCurrent_of_current hcur, Ctx.metered_of_start hnom hstart]
  simp [Ctx.nom_of_current hcur hnom]

theorem creditCurrent_credited {r : TankRec} (hr : s.tank? m.tank = some r) :
    FuelCredited m.tank ((s.ctx n).lastMeter - start) r s (creditCurrent n st s) := by
  have htank : (s.ctx n).currentTank.getD 0 = m.tank := by rw [Ctx.currentTank, hnom]; rfl
  rw [creditCurrent, htank, Ctx.metered_of_start hnom hstart]
  refine (creditFuel_credited ?_ _).congr rfl (State.updCtx_tanks ..).symm (State.updCtx_clock ..).symm
  rwa [State.tank?, State.updCtx_tanks]

end

end Sys2Proof.Machine
/-! ## SUPPORT. Going on to the next nomination, and the end of a delivery (R120, R123, R127, R134, R135) -/

namespace Sys2Proof.Machine

/-! ### What taking up a nomination comes to (R120) -/

/-- The nomination at position `k` is passed over: with nothing to fill it is SKIPPED (R120). -/
def Ctx.passOver (k : Nat) (c : Ctx) : Ctx :=
  { c with
    current := some k
    noms := c.noms.modify (k - 1) (fun m => { m with status := .skipped, delivered := 0 }) }

/-- Nominations are passed over until one is made current, or none remains and the delivery is COMPLETE. -/
theorem takeUpFrom_induct {P Q : State → Prop} {n : Nat}
    (pass : ∀ t k m, P t → (t.ctx n).noms[k - 1]? = some m → m.status = .waiting →
      P (t.updCtx n (Ctx.passOver k)))
    (take : ∀ t k m, P t → (t.ctx n).noms[k - 1]? = some m → m.status = .waiting → Q (makeCurrent n k m t))
    (done : ∀ t, P t → Q (enterDone n .complete t)) (ks : List Nat) (s : State) (h : P s) :
    Q (takeUpFrom n ks s) := by
  induction ks generalizing s with
  | nil => exact done s h
  | cons k ks ih =>
    unfold takeUpFrom
    split
    · exact ih s h
    next m hm =>
      split_ifs with hw hfill
      · exact ih s h
      · exact ih _ (pass s k m h hm (not_not.1 hw))
      · exact take s k m h hm (not_not.1 hw)

/-- With no WAITING nomination left the delivery is COMPLETE (R120). -/
theorem takeUpFrom_none_waiting {n : Nat} {s : State}
    (h : ∀ (j : Nat) (x : Nomination), (s.ctx n).noms[j]? = some x → x.status ≠ .waiting) (ks : List Nat) :
    takeUpFrom n ks s = enterDone n .complete s := by
  induction ks with
  | nil => rfl
  | cons k ks ih =>
    unfold takeUpFrom
    split
    · exact ih
    next m hm => rw [if_pos (h _ _ hm), ih]

/-- Where the one nomination that may be WAITING is given another status, none is left. -/
theorem none_waiting_modify {noms : List Nomination} {i : Nat} {f : Nomination → Nomination}
    (hf : ∀ y, (f y).status ≠ .waiting)
    (h : ∀ (j : Nat) (x : Nomination), noms[j]? = some x → x.status = .waiting → i = j) (j : Nat) (x : Nomination)
    (hx : (noms.modify i f)[j]? = some x) : x.status ≠ .waiting := by
  rw [List.getElem?_modify] at hx
  obtain ⟨y, hy, rfl⟩ := Option.map_eq_some_iff.1 hx
  split
  · exact hf y
  next hij => exact fun hw => hij (h j y hy hw)

/-- Acting on a nomination taken up gives the context a state other than STALLED and a fill time at most. -/
theorem actOnTakenUp_ctx (n v : Nat) (s : State) : ∃ state fillLeft, state ≠ .stalled
    ∧ (actOnTakenUp n v s).ctx n = { s.ctx n with state, fillLeft } := by
  unfold actOnTakenUp
  dsimp only
  split_ifs with hfill hflow
  · exact ⟨.dispensing, (s.ctx n).fillLeft, by decide, State.ctx_updCtx ..⟩
  · exact ⟨.suspended, none, by decide, State.ctx_updCtx ..⟩
  · exact ⟨_, _, fun hst => hflow (decide_eq_true (.inr hst)), rfl⟩

theorem makeCurrent_ctx (n k : Nat) (m : Nomination) (s : State) : ∃ state fillLeft byChangeover,
    state ≠ .stalled ∧ (makeCurrent n k m s).ctx n = { s.ctx n with
      current := some k, state, fillLeft, byChangeover
      noms := (s.ctx n).noms.modify (k - 1)
        (fun x => { x with target := some (fillTarget m (s.tankRec m.tank)) }) } := by
  obtain ⟨state, fillLeft, hne, hctx⟩ := actOnTakenUp_ctx n (fillTarget m (s.tankRec m.tank))
    (s.updCtx n (fun c => { c with
      current := some k
      noms := c.noms.modify (k - 1) (fun x => { x with target := some (fillTarget m (s.tankRec m.tank)) })
      byChangeover := s.tankTouched m.tank }))
  rw [State.ctx_updCtx] at hctx
  exact ⟨state, fillLeft, s.tankTouched m.tank, hne, hctx⟩

/-- Step 4 of a hose completion takes the next nomination up, and perhaps resumes with it (R123). -/
theorem goOnToNext_cases (n : Nat) (s : State) : ∃ f : Ctx → Ctx,
    (∀ c, (f c).noms = c.noms ∧ (f c).haltSent = c.haltSent)
    ∧ (goOnToNext n s = takeUpNext n (s.updCtx n f)
      ∨ goOnToNext n s = resumeWaiting n (takeUpNext n (s.updCtx n f))) := by
  unfold goOnToNext
  dsimp only
  refine ⟨_, fun c => ?_, (ite_eq_or_eq ..).symm⟩
  split <;> exact ⟨rfl, rfl⟩

@[simp] theorem enterDone_tanks (n : Nat) (o : DocketOutcome) (s : State) : (enterDone n o s).tanks = s.tanks :=
  State.updCtx_tanks ..

@[simp] theorem enterDone_ctx (n : Nat) (o : DocketOutcome) (s : State) :
    (enterDone n o s).ctx n = (s.ctx n).finished o s.clock := State.ctx_updCtx ..

theorem enterDone_port (n : Nat) (o : DocketOutcome) (s : State) : (enterDone n o s).port =
    Port.append { kind := .deliveryDone, table := .deliveries, index := n, value := some o.code, time := s.clock }
      s.port := by
  rw [enterDone, raise_port, State.updCtx_clock, State.updCtx_port]

@[simp] theorem makeCurrent_tanks (n k : Nat) (m : Nomination) (s : State) :
    (makeCurrent n k m s).tanks = s.tanks := by
  unfold makeCurrent actOnTakenUp
  dsimp only
  split_ifs <;> simp [orderFill_eq, toBowser]

/-- From `s` to `t` the nomination at place `j`, `m`, has stood still in context `n`, and no tank was written. -/
structure NomKept (n j : Nat) (m : Nomination) (s t : State) : Prop where
  nom : (t.ctx n).noms[j]? = some m
  haltSent : (s.ctx n).haltSent = false → (t.ctx n).haltSent = false
  tanks : t.tanks = s.tanks

theorem NomKept.trans {n j : Nat} {m : Nomination} {s t u : State} (h : NomKept n j m s t) (h' : NomKept n j m t u) :
    NomKept n j m s u := ⟨h'.nom, fun hs => h'.haltSent (h.haltSent hs), h'.tanks.trans h.tanks⟩

/-- An update that writes no nomination leaves them all. -/
theorem updCtx_kept {n j : Nat} {m : Nomination} {s : State} (hj : (s.ctx n).noms[j]? = some m) {f : Ctx → Ctx}
    (hnoms : (f (s.ctx n)).noms = (s.ctx n).noms)
    (hhalt : (f (s.ctx n)).haltSent = (s.ctx n).haltSent) : NomKept n j m s (s.updCtx n f) := by
  refine ⟨?_, fun h => ?_, State.updCtx_tanks ..⟩ <;> rw [State.ctx_updCtx]
  · rwa [hnoms]
  · rwa [hhalt]

theorem resumeWaiting_kept {n j : Nat} {m : Nomination} {s : State} (hj : (s.ctx n).noms[j]? = some m) :
    NomKept n j m s (resumeWaiting n s) := by
  have h := updCtx_kept (f := fun c => { c with state := .dispensing }) hj rfl rfl
  exact ⟨h.nom, h.haltSent, h.tanks⟩

/-- Writing a nomination that WAITS leaves any other that does not. -/
theorem getElem?_modify_of_waiting {noms : List Nomination} {i j : Nat} {m x : Nomination} (hj : noms[j]? = some m)
    (hm : m.status ≠ .waiting) (hi : noms[i]? = some x) (hx : x.status = .waiting) (f : Nomination → Nomination) :
    (noms.modify i f)[j]? = some m := by
  have hij : i ≠ j := by
    rintro rfl
    cases hi.symm.trans hj
    exact hm hx
  rw [List.getElem?_modify, hj]
  simp [hij]

section
variable {n j : Nat} {m : Nomination} {s : State} (hj : (s.ctx n).noms[j]? = some m) (hm : m.status ≠ .waiting)
include hj hm

/-- Taking up the next leaves a nomination that does not WAIT, and never ends in STALLED. -/
theorem takeUpNext_kept : NomKept n j m s (takeUpNext n s) ∧ ((takeUpNext n s).ctx n).state ≠ .stalled := by
  refine takeUpFrom_induct (P := NomKept n j m s) (Q := fun t => NomKept n j m s t ∧ (t.ctx n).state ≠ .stalled)
    (fun t k x ht hk hx => ?_) (fun t k x ht hk hx => ?_) (fun t ht => ?_) _ s ⟨hj, id, rfl⟩
  · refine ⟨?_, ?_, (State.updCtx_tanks ..).trans ht.tanks⟩ <;> rw [State.ctx_updCtx]
    · exact getElem?_modify_of_waiting ht.nom hm hk hx _
    · exact ht.haltSent
  · obtain ⟨state, fillLeft, byChangeover, hne, hctx⟩ := makeCurrent_ctx n k x t
    refine ⟨⟨?_, ?_, (makeCurrent_tanks ..).trans ht.tanks⟩, ?_⟩ <;> rw [hctx]
    · exact getElem?_modify_of_waiting ht.nom hm hk hx _
    · exact ht.haltSent
    · exact hne
  · refine ⟨⟨?_, ?_, (enterDone_tanks ..).trans ht.tanks⟩, ?_⟩ <;> rw [enterDone_ctx]
    · exact ht.nom
    · exact fun _ => rfl
    · exact nofun

/-- Step 4 of a hose completion leaves a nomination that does not WAIT (R123). -/
theorem goOnToNext_kept : NomKept n j m s (goOnToNext n s) := by
  obtain ⟨f, hf, heq⟩ := goOnToNext_cases n s
  have hleft := updCtx_kept hj (hf _).1 (hf _).2
  have htaken := hleft.trans (takeUpNext_kept hleft.nom hm).1
  rcases heq with heq | heq <;> rw [heq]
  · exact htaken
  · exact htaken.trans (resumeWaiting_kept htaken.nom)

end

end Sys2Proof.Machine
/-! ## SUPPORT. The completion, the skip and the abandonment of a nomination; bowser reports -/

namespace Sys2Proof.Machine

section
variable {s : State} {n : Nat}

/-! ### The hose completion (R123) -/

/-- The nomination is FILLED with what the bowser metered, which its tank is credited; what follows leaves both. -/
theorem completeCurrent_filled {k start : Nat} {m : Nomination} {r : TankRec} (hcur : (s.ctx n).current = some k)
    (hnom : (s.ctx n).currentNom = some m) (hstart : m.startMeter = some start) (hr : s.tank? m.tank = some r) :
    ((completeCurrent n s).ctx n).noms[k - 1]? =
      some { m with status := .filled, delivered := (s.ctx n).lastMeter - start }
    ∧ FuelCredited m.tank ((s.ctx n).lastMeter - start) r s (completeCurrent n s) := by
  have hstep := goOnToNext_kept (s := (creditCurrent n .filled s).updCtx n (fun c =>
    { c with fill := none, fillLeft := none, settle := none, haltSent := false, byChangeover := false }))
    (by rw [State.ctx_updCtx]; exact creditCurrent_nom hnom hstart .filled hcur)
    (show NomStatus.filled ≠ .waiting by decide)
  exact ⟨hstep.nom, (creditCurrent_credited hnom hstart .filled hr).congr (hstep.tanks.trans (State.updCtx_tanks ..))
    rfl rfl⟩

/-! ### SKIP_NOMINATION (R127) -/

theorem skipNomination_refused (h : (s.ctx n).state ≠ .stalled) : skipNomination n s = (s, .wrongState) := if_neg h

theorem skipNomination_started (h : (s.ctx n).state = .stalled) (hstart : (s.ctx n).started = true) :
    skipNomination n s = (takeUpNext n ((creditCurrent n .skipped s).updCtx n (fun c =>
      { c with haltSent := false, byChangeover := false })), .done) := by
  simp only [skipNomination, h, hstart, if_true]

theorem skipNomination_not_started {k : Nat} (h : (s.ctx n).state = .stalled) (hcur : (s.ctx n).current = some k)
    (hstart : (s.ctx n).started = false) : skipNomination n s = (takeUpNext n (s.updCtx n (fun c =>
      { c with
        haltSent := false, byChangeover := false
        noms := c.noms.modify (k - 1) (fun x => { x with status := .skipped }) })), .done) := by
  simp only [skipNomination, h, hstart, if_true, Bool.false_eq_true, if_false, State.updCtx_updCtx]
  refine congrArg (fun t => (takeUpNext n t, Answer.done)) (State.updCtx_congr ?_)
  rw [Ctx.updCurrent_of_current hcur]

section
variable {k : Nat} {m : Nomination} (h : (s.ctx n).state = .stalled) (hcur : (s.ctx n).current = some k)
  (hnom : (s.ctx n).currentNom = some m)
include h hcur hnom

/-- A nomination that has not started is SKIPPED and no tank credited. -/
theorem skipNomination_skips (hstart : m.startMeter = none) : ∃ t, skipNomination n s = (t, .done)
    ∧ (t.ctx n).state ≠ .stalled ∧ (t.ctx n).haltSent = false
    ∧ (t.ctx n).noms[k - 1]? = some { m with status := .skipped } ∧ t.tanks = s.tanks := by
  have hk := Ctx.nom_of_current hcur hnom
  obtain ⟨hkept, hstate⟩ := takeUpNext_kept (n := n) (j := k - 1) (m := { m with status := .skipped })
    (s := s.updCtx n (fun c => { c with
      haltSent := false, byChangeover := false
      noms := c.noms.modify (k - 1) (fun x => { x with status := .skipped }) }))
    (by rw [State.ctx_updCtx, List.getElem?_modify, hk]; simp) (show NomStatus.skipped ≠ .waiting by decide)
  exact ⟨_, skipNomination_not_started h hcur (Ctx.not_started hnom hstart), hstate, hkept.haltSent (by simp),
    hkept.nom, hkept.tanks.trans (State.updCtx_tanks ..)⟩

/-- One that has started is SKIPPED with what was metered, and its tank credited (R33). -/
theorem skipNomination_credits {start : Nat} (hstart : m.startMeter = some start) :
    ∃ t, skipNomination n s = (t, .done) ∧ (t.ctx n).state ≠ .stalled ∧ (t.ctx n).haltSent = false
    ∧ (t.ctx n).noms[k - 1]? = some { m with status := .skipped, delivered := (s.ctx n).lastMeter - start }
    ∧ ∀ r, s.tank? m.tank = some r → FuelCredited m.tank ((s.ctx n).lastMeter - start) r s t := by
  obtain ⟨hkept, hstate⟩ := takeUpNext_kept (n := n) (j := k - 1)
    (s := (creditCurrent n .skipped s).updCtx n (fun c => { c with haltSent := false, byChangeover := false }))
    (by rw [State.ctx_updCtx]; exact creditCurrent_nom hnom hstart .skipped hcur)
    (show NomStatus.skipped ≠ .waiting by decide)
  exact ⟨_, skipNomination_started h (Ctx.started_of_start hnom hstart), hstate, hkept.haltSent (by simp), hkept.nom,
    fun r hr => (creditCurrent_credited hnom hstart .skipped hr).congr
      (hkept.tanks.trans (State.updCtx_tanks ..)) rfl rfl⟩

end

/-! ### The end of a delivery (R134, R135) -/

theorem enterDone_updCtx (f : Ctx → Ctx) (o : DocketOutcome) : enterDone n o (s.updCtx n f) =
    { s.updCtx n (fun _ => (f (s.ctx n)).finished o s.clock) with
      port := Port.append { kind := .deliveryDone, table := .deliveries, index := n, value := some o.code
                            time := s.clock } s.port } := by
  unfold enterDone
  rw [State.updCtx_updCtx, State.updCtx_clock, State.updCtx_congr (g := fun _ => (f (s.ctx n)).finished o s.clock) rfl]
  unfold raise State.onPort State.updCtx
  split <;> rfl

theorem abandonDelivery_refused (h : (s.ctx n).state.active = false) : abandonDelivery n s = (s, .wrongState) := by
  rw [abandonDelivery, h]; rfl

/-- HALT_FILL is offered unless no fill has been ordered yet, in GATHERING (R134). -/
theorem abandonDelivery_active (h : (s.ctx n).state.active = true) : ∃ nextId line, abandonDelivery n s =
    (enterDone n .abandoned ((if (s.ctx n).running then creditCurrent n .unverified { s with nextId, line }
      else { s with nextId, line }).updCtx n Ctx.skipWaiting), .done) := by
  have hhalt : ∃ nextId line, (if (s.ctx n).state = .gathering then s else orderBowser n Kind.haltFill .nothing s)
      = { s with nextId, line } := by split <;> exact ⟨_, _, rfl⟩
  obtain ⟨nextId, line, hhalt⟩ := hhalt
  refine ⟨nextId, line, ?_⟩
  rw [abandonDelivery, if_pos h]
  dsimp only
  rw [hhalt]

/-- With none of its nominations running a delivery ends with those that WAIT passed over, and DELIVERY_DONE told. -/
theorem abandonDelivery_not_running (h : (s.ctx n).state.active = true) (hrun : (s.ctx n).running = false) :
    ∃ nextId line, abandonDelivery n s = ({ s.updCtx n (fun _ =>
        (s.ctx n).skipWaiting.finished .abandoned s.clock) with
      nextId, line
      port := Port.append { kind := .deliveryDone, table := .deliveries, index := n, value := some 2
                            time := s.clock } s.port }, .done) := by
  obtain ⟨nextId, line, heq⟩ := abandonDelivery_active h
  refine ⟨nextId, line, ?_⟩
  rw [heq, hrun, if_neg Bool.false_ne_true, enterDone_updCtx]
  unfold State.updCtx
  split <;> rfl

/-- A running nomination is UNVERIFIED, its tank credited, and DELIVERY_DONE told beside one LOW_FUEL at most. -/
theorem abandonDelivery_running {start : Nat} {m : Nomination} (h : (s.ctx n).state.active = true)
    (hrun : (s.ctx n).running = true) (hnom : (s.ctx n).currentNom = some m) (hstart : m.startMeter = some start) :
    ∃ t port, abandonDelivery n s = (t, .done)
      ∧ t.ctx n = ((s.ctx n).updCurrent (fun x =>
          { x with status := .unverified, delivered := (s.ctx n).lastMeter - start })).skipWaiting.finished
            .abandoned s.clock
      ∧ (∀ r, s.tank? m.tank = some r → FuelCredited m.tank ((s.ctx n).lastMeter - start) r s t)
      ∧ port.notices.length ≤ s.port.notices.length + 1
      ∧ t.port = Port.append { kind := .deliveryDone, table := .deliveries, index := n, value := some 2
                               time := s.clock } port
      ∧ Moves [] s t := by
  obtain ⟨nextId, line, heq⟩ := abandonDelivery_active h
  rw [hrun, if_pos rfl] at heq
  have hm : Moves [] s (creditCurrent n .unverified { s with nextId, line }) :=
    (Moves.aside ⟨_, _, _, _, _, rfl⟩).trans (creditCurrent_moves { s with nextId, line } n .unverified)
  have hclock := clock_of_standing hm.standing
  have hflows := creditCurrent_flows n .unverified { s with nextId, line }
  have hmeter := Ctx.metered_of_start hnom hstart
  refine ⟨_, _, heq, ?_, fun r hr => ?_, creditCurrent_notices n .unverified { s with nextId, line }, ?_,
    hm.trans ((updCtx_moves _ n _).trans (enterDone_moves _ n _))⟩
  · rw [enterDone_ctx, State.ctx_updCtx, State.updCtx_clock, hclock, hflows.finished, ← hmeter]
    rfl
  · exact (creditCurrent_credited (s := { s with nextId, line }) hnom hstart .unverified hr).congr
      ((enterDone_tanks ..).trans (State.updCtx_tanks ..)) rfl rfl
  · rw [enterDone_port, State.updCtx_clock, hclock, State.updCtx_port]
    rfl

theorem collectDocketOwn_done (h : (s.ctx n).state = .done) : collectDocketOwn n s =
    { state := s.updCtx n (fun _ => {})
      response := { answer := .done, record := n, fields := (s.ctx n).docketPairs } } := if_pos h
theorem collectDocketOwn_refused (h : (s.ctx n).state ≠ .done) : collectDocketOwn n s = refuse .wrongState s :=
  if_neg h

end

/-! ### Bowser reports and the VALVE_SHUT reply (R122, R123, R129) -/

section
variable {s u : State} {slot node ml n : Nat}

theorem exec_bowserMeter_of_reports (h : Reports s slot node (.bowserMeter ml) u) :
    exec (.bowserMeter slot) s = .next (bowserReport node ml u) := by
  obtain ⟨t, hsource, -, -, heq⟩ := dispatchSlot_of_reports (act := dispatchBowserMeter)
    (mine := fun m => match m with | .bowserMeter _ => true | _ => false) h rfl
  refine (congrArg Host.Outcome.next heq).trans ?_
  rw [dispatchBowserMeter, hsource]

theorem exec_hoseDone_of_reports (h : Reports s slot node (.hoseDone ml) u) :
    exec (.hoseDone slot) s = .next (hoseReport node ml u) := by
  obtain ⟨t, hsource, -, -, heq⟩ := dispatchSlot_of_reports (act := dispatchHoseDone)
    (mine := fun m => match m with | .hoseDone _ => true | _ => false) h rfl
  refine (congrArg Host.Outcome.next heq).trans ?_
  rw [dispatchHoseDone, hsource]

theorem exec_valveShutReply_of_replies {accepted : Bool} {meter : Option Nat} {e : Exchange} {serial : Nat}
    (h : Replies s slot node (.valveShut accepted meter) e u) (he : e.purpose = .valveShut n serial) :
    exec (.valveShutReply slot) s = .next (valveShutOutcome n serial (if accepted then meter else none) u) := by
  obtain ⟨t, -, -, hanswers, heq⟩ := dispatchSlot_of_replies (act := dispatchValveShut)
    (mine := fun m => match m with | .valveShut _ _ => true | _ => false) h rfl
  refine (congrArg Host.Outcome.next heq).trans ?_
  obtain ⟨id, dest, kind, purpose⟩ := e
  cases he
  rw [dispatchValveShut, hanswers]

/-- The fields of a context after a bowser reading (R122). -/
def Ctx.heard (ml : Nat) (c : Ctx) : Ctx :=
  { c with
    lastMeter := max c.lastMeter ml
    progress := if c.state = .dispensing ∨ c.state = .suspending then (c.progress + 1) % 256 else c.progress }

theorem meterReport_eq (n ml : Nat) (u : State) : meterReport n ml u = u.updCtx n (Ctx.heard ml) := by
  refine State.updCtx_congr ?_
  unfold Ctx.heard
  dsimp only
  split <;> rfl

theorem bowserReport_unmatched (h : u.bowserCtx node = none) (ml : Nat) : bowserReport node ml u = u := by
  rw [bowserReport, h]
theorem hoseReport_unmatched (h : u.bowserCtx node = none) (ml : Nat) : hoseReport node ml u = u := by
  rw [hoseReport, h]

section
variable (h : u.bowserCtx node = some n) (ml : Nat)
include h

theorem bowserReport_matched : bowserReport node ml u = u.updCtx n (Ctx.heard ml) := by
  rw [bowserReport, h]
  exact meterReport_eq n ml u

/-- A reading does not say whether the current nomination runs. -/
theorem hoseReport_matched : hoseReport node ml u =
    if (u.ctx n).running then completeCurrent n (u.updCtx n (Ctx.heard ml)) else u.updCtx n (Ctx.heard ml) := by
  simp only [hoseReport, h, meterReport_eq, State.ctx_updCtx]
  rfl

end

/-- An acceptance that finds a cause held leaves the context SUSPENDED (R129). -/
theorem valveShutOutcome_suspends (hstate : (u.ctx n).state = .suspending)
    (hcause : (u.ctx n).byRequest = true ∨ (u.ctx n).byChangeover = true) (ml : Nat) :
    valveShutOutcome n (u.ctx n).serial (some ml) u = u.updCtx n (fun c =>
      { c with lastMeter := max c.lastMeter ml, state := .suspended, settle := none }) := by
  have hend := endSuspending_of_cause (n := n) (s := u.updCtx n (Ctx.meter ml))
    (by rw [State.ctx_updCtx]; exact hcause)
  rw [State.updCtx_updCtx] at hend
  simp [valveShutOutcome, hstate, CtxState.active, hend, Ctx.meter]

end

end Sys2Proof.Machine
/-! ## SUPPORT. OPEN_DELIVERY and NOMINATE (R115 to R118) -/

namespace Sys2Proof.Machine

/-! ### The checks -/

/-- A target in the tank's range, as the rules put it. -/
theorem targetOk_eq {u : State} {tank : Nat} {r : TankRec} (hr : u.tank? tank = some r) (target : Option Nat) :
    targetOk target tank u = decide (∀ v ∈ target, 1 ≤ v ∧ v ≤ r.capacity) := by
  rw [targetOk, State.tankRec_of_find hr]
  cases target <;> simp [optInRange, inRange]

theorem handheld_eq (u : State) (bowser : Nat) : u.handheld bowser =
    decide (2 ≤ bowser ∧ bowser ≤ 62 ∧ (u.node? bowser).isSome ∧ (u.nodeRec bowser).role = .handheld) := by
  have hrange : inRange 2 Config.nodes bowser = decide (2 ≤ bowser ∧ bowser ≤ 62) := rfl
  rw [Bool.eq_iff_iff, State.handheld, State.nodeRec, hrange]
  cases u.node? bowser <;> simp [and_assoc]

/-- No nomination of an active context names the tank. -/
theorem not_nominated_eq (u : State) (tank : Nat) : (!u.nominated tank) =
    decide (∀ c ∈ [u.ctx1, u.ctx2], c.state.active = true → ∀ m ∈ c.noms, m.tank ≠ tank) := by
  rw [Bool.eq_iff_iff]
  simp [State.nominated, State.ctx]

theorem not_bowserBusy_eq (u : State) (bowser : Nat) : (!u.bowserBusy bowser) =
    decide (∀ c ∈ [u.ctx1, u.ctx2], c.state.active = true → c.bowser ≠ some bowser) := by
  rw [Bool.eq_iff_iff]
  simp [State.bowserBusy, State.ctx]

theorem docketFree_eq (u : State) (docket : Nat) : (u.findKey .deliveries docket).isNone =
    decide (∀ c ∈ [u.ctx1, u.ctx2], c.state ≠ .idle → c.docket ≠ some docket) := by
  rw [Bool.eq_iff_iff]
  by_cases h1 : u.ctx1.state = .idle <;> by_cases h2 : u.ctx2.state = .idle <;>
    simp [State.findKey, State.ctxUsed, State.ctx, h1, h2]

theorem idleCtx_isSome_eq (u : State) : u.idleCtx.isSome = decide (∃ c ∈ [u.ctx1, u.ctx2], c.state = .idle) := by
  rw [Bool.eq_iff_iff]
  simp [State.idleCtx, State.ctx]

section
variable (u : State) (tank bowser docket n : Nat) (target : Option Nat) (r : TankRec)

/-- The checks of R116, in their order. -/
def State.openChecks : List (Bool × Answer) :=
  let both : List Ctx := [u.ctx1, u.ctx2]
  [ (decide (2 ≤ bowser ∧ bowser ≤ 62 ∧ (u.node? bowser).isSome ∧ (u.nodeRec bowser).role = .handheld
      ∧ ∀ v ∈ target, 1 ≤ v ∧ v ≤ r.capacity), .outOfRange)
  , (decide (∀ c ∈ both, c.state.active = true → ∀ m ∈ c.noms, m.tank ≠ tank), .duplicate)
  , (decide (∀ c ∈ both, c.state.active = true → c.bowser ≠ some bowser), .duplicate)
  , (decide (∀ c ∈ both, c.state ≠ .idle → c.docket ≠ some docket), .duplicate)
  , (decide (∃ c ∈ both, c.state = .idle), .noRoom) ]

/-- The checks of R118, in their order. -/
def State.nominateChecks : List (Bool × Answer) :=
  [ (decide ((u.ctx n).state = .gathering), .tooLate)
  , (decide (∀ v ∈ target, 1 ≤ v ∧ v ≤ r.capacity), .outOfRange)
  , (decide (∀ d ∈ [u.ctx1, u.ctx2], d.state.active = true → ∀ m ∈ d.noms, m.tank ≠ tank), .duplicate)
  , (decide ((u.ctx n).noms.length < 8), .noRoom) ]

end

/-! ### OPEN_DELIVERY -/

section
variable {s u : State} {src : Source} {a : Asked} {tank bowser docket : Nat} {target : Option Nat} {r : TankRec}

theorem exec_openDelivery (hp : Presents s .openDelivery src a u) (hn : a.names .tanks tank)
    (hr : u.tank? tank = some r) (hreach : a.mayReach .tanks tank .request u = true) :
    Answers (.openDelivery src) s a (openDeliveryOwn a tank u) := by
  rw [Answers, exec, execOpenDelivery, runRequest_of_names _ hp hn rfl (by decide) (by decide) rfl,
    onRecord_of_names hn (by rw [State.holds, hr]; rfl) hreach]

variable (hf : a.req.fields = [(1, bowser), (2, docket)] ++ target.toList.map (fun v => (3, v)))
  (hr : u.tank? tank = some r)
include hf

/-- The parameters are of the form asked for. -/
theorem openDelivery_params : a.params.get 1 = some bowser ∧ a.params.get 2 = some docket
    ∧ a.params.get 3 = target ∧ a.params.paramsOk 3 = true := by
  rw [Asked.params, hf]
  cases target <;> simp [Fields.get, Fields.paramsOk, Fields.repeats, inRange]

include hr

/-- The checks of the model are those of R116 one by one. -/
theorem openDelivery_checks :
    [ (a.params.paramsOk 3 && u.handheld bowser && targetOk target tank u, Answer.outOfRange)
    , (!u.nominated tank, .duplicate)
    , (!u.bowserBusy bowser, .duplicate)
    , ((u.findKey .deliveries docket).isNone, .duplicate)
    , (u.idleCtx.isSome, .noRoom) ] = u.openChecks tank bowser docket target r := by
  obtain ⟨-, -, -, hok⟩ := openDelivery_params hf
  rw [hok, Bool.true_and, handheld_eq, targetOk_eq hr, not_nominated_eq, not_bowserBusy_eq, docketFree_eq,
    idleCtx_isSome_eq, ← Bool.decide_and]
  simp only [and_assoc]
  rfl

theorem openDeliveryOwn_refused {x : Answer} (h : firstFailing (u.openChecks tank bowser docket target r) = some x) :
    openDeliveryOwn a tank u = refuse x u := by
  obtain ⟨hbowser, hdocket, htarget, -⟩ := openDelivery_params hf
  simp only [openDeliveryOwn, hbowser, hdocket, htarget, openDelivery_checks hf hr, h]

theorem openDeliveryOwn_opens (h : firstFailing (u.openChecks tank bowser docket target r) = none) :
    openDeliveryOwn a tank u = accept .started .deliveries (u.idleCtx.getD 1)
      (openContext (u.idleCtx.getD 1) bowser docket tank target a.party u) := by
  obtain ⟨hbowser, hdocket, htarget, -⟩ := openDelivery_params hf
  simp only [openDeliveryOwn, hbowser, hdocket, htarget, openDelivery_checks hf hr, h]

end

/-- Context 1 is taken where it is IDLE (R117). -/
theorem idleCtx_first {u : State} (h : u.ctx1.state = .idle) : u.idleCtx = some 1 := by
  simp [State.idleCtx, State.ctx, h]

/-- Where it is not, the last check of R116 says that context 2 is (R116, R117). -/
theorem idleCtx_second {u : State} {tank bowser docket : Nat} {target : Option Nat} {r : TankRec}
    (hpass : firstFailing (u.openChecks tank bowser docket target r) = none) (h : u.ctx1.state ≠ .idle) :
    u.idleCtx = some 2 := by
  have hroom := firstFailing_none.1 hpass (decide (∃ c ∈ [u.ctx1, u.ctx2], c.state = .idle), .noRoom)
    (by simp [State.openChecks])
  simp only [List.mem_cons, List.not_mem_nil, or_false, exists_eq_or_imp, exists_eq_left, decide_eq_true_eq] at hroom
  simp [State.idleCtx, State.ctx, h, hroom.resolve_left h]

/-! ### NOMINATE -/

section
variable {s u : State} {src : Source} {a : Asked} {n tank : Nat} {target : Option Nat} {r : TankRec}
  (hf : a.req.fields = [(1, tank)] ++ target.toList.map (fun v => (2, v))) (hr : u.tank? tank = some r)
include hf

theorem nominate_params : a.params.get 1 = some tank ∧ a.params.get 2 = target ∧ a.params.paramsOk 2 = true := by
  rw [Asked.params, hf]
  cases target <;> simp [Fields.get, Fields.paramsOk, Fields.repeats, inRange]

include hr

/-- Both records resolved and both rights passed, a NOMINATE comes to its own checks (R118). -/
theorem exec_nominate (hp : Presents s .nominate src a u) (hn : a.names .deliveries n) (hctx : n = 1 ∨ n = 2)
    (hreach : a.mayReach .deliveries n .request u = true) (htank : a.mayReach .tanks tank .request u = true) :
    Answers (.nominate src) s a (nominateOwn a n tank u) := by
  obtain ⟨hget, -, -⟩ := nominate_params hf
  rw [Answers, exec, execNominate, runRequest_of_names _ hp hn rfl (by decide) (by decide) rfl]
  obtain ⟨-, -, rfl, hne⟩ := hn
  simp [nominateTable, hget, State.holds, hctx, hr, hne, hreach, htank]

/-- Past the form of its parameters the checks of the model are those of R118 one by one. -/
theorem nominate_checks : firstFailing
    [ (a.params.paramsOk 2, Answer.outOfRange)
    , (decide ((u.ctx n).state = .gathering), .tooLate)
    , (targetOk target tank u, .outOfRange)
    , (!u.nominated tank, .duplicate)
    , (decide ((u.ctx n).noms.length < Config.nominations), .noRoom) ]
    = firstFailing (u.nominateChecks tank n target r) := by
  obtain ⟨-, -, hok⟩ := nominate_params hf
  rw [firstFailing_cons, hok, if_pos rfl, targetOk_eq hr, not_nominated_eq]
  rfl

theorem nominateOwn_refused {x : Answer} (h : firstFailing (u.nominateChecks tank n target r) = some x) :
    nominateOwn a n tank u = refuse x u := by
  obtain ⟨-, htarget, -⟩ := nominate_params hf
  simp only [nominateOwn, htarget, nominate_checks hf hr, h]

theorem nominateOwn_appends (h : firstFailing (u.nominateChecks tank n target r) = none) :
    nominateOwn a n tank u = accept .done .deliveries n (appendNomination n tank target u) := by
  obtain ⟨-, htarget, -⟩ := nominate_params hf
  simp only [nominateOwn, htarget, nominate_checks hf hr, h]

end

end Sys2Proof.Machine
/-! ## The statements of fuel deliveries, settled -/

namespace Sys2Proof.Proofs

open Sys2Proof.Machine

/-- Settles O53: the checks of the model are those of R116 and R118 one by one, and past them one context is written. -/
theorem openDelivery : Obligations.OpenDelivery := by
  refine ⟨fun s u src a tank bowser docket target r hp hn hf hr hreach => ?_,
    fun s u src a n tank target r hp hn hctx hf hr hreach htank => ?_⟩
  · intro both checks gathers
    have hans := exec_openDelivery hp hn hr hreach
    refine ⟨fun x hx => ?_, fun hpass => ?_⟩
    · rwa [openDeliveryOwn_refused hf hr hx] at hans
    · rw [openDeliveryOwn_opens hf hr hpass] at hans
      refine ⟨fun h => ?_, fun h => ?_⟩
      · rwa [idleCtx_first h] at hans
      · rwa [idleCtx_second hpass h] at hans
  · intro c checks
    have hans := exec_nominate hf hr hp hn hctx hreach htank
    refine ⟨fun x hx => ?_, fun hpass => ?_⟩
    · rwa [nominateOwn_refused hf hr hx] at hans
    · rwa [nominateOwn_appends hf hr hpass] at hans

/-- Settles O54: each state of the context is one equation of the two requests, and of a resumption. -/
theorem suspendResume : Obligations.SuspendResume := by
  intro s u src a n hn hctx hf hr c ordered
  refine ⟨fun hp => ?_, fun hp => ?_⟩
  · have hans := answers_acceptOr_on_ctx (c := .suspendDelivery src) hn hctx hf hr suspendDelivery hp rfl rfl
    refine ⟨fun h => ?_, fun h => ?_, fun h => ?_, fun h => ?_⟩
    · rwa [suspendDelivery_gathering h] at hans
    · rw [suspendDelivery_dispensing h, suspendFlow_eq, State.updCtx_updCtx, toBowser_updCtx (by rfl)] at hans
      simpa [ordered, c, Ctx.flowSuspended] using hans
    · rwa [suspendDelivery_paused h] at hans
    · rwa [suspendDelivery_refused h] at hans
  · have hans := answers_acceptOr_on_ctx (c := .resumeDelivery src) hn hctx hf hr resumeDelivery hp rfl rfl
    refine ⟨fun h => ?_, fun h => ?_, fun h hch => ?_, fun m h hch hnom hm hhalt => ?_, fun h hch hstart => ?_⟩
    · rwa [resumeDelivery_unchanged h] at hans
    · rwa [resumeDelivery_refused h] at hans
    · rwa [resumeDelivery_suspended h, resumeIfFree_of_cause (.inr (by simpa using hch))] at hans
    · rw [resumeDelivery_suspended h, resumeIfFree_of_free (by simpa using h) (by simp) (by simpa using hch),
        resume_filling (by rw [State.ctx_updCtx]; exact hnom) hm (by simpa using hhalt), State.updCtx_updCtx,
        toBowser_updCtx (by rfl)] at hans
      simpa [ordered, c] using hans
    · rwa [resumeDelivery_stalled h, resumeStalled_waits hch hstart] at hans

/-- Settles O55: a skip or an abandonment writes the nomination and the context's end; what a credit hands on moves the
context's flow at most, which its end clears. -/
theorem endDelivery : Obligations.EndDelivery := by
  intro s u src a n hn hctx hf hr c ended notice told skipped credited
  have hcredited {q ml : Nat} {r : TankRec} {t : State} (h : FuelCredited q ml r u t) : credited q ml r t :=
    ⟨h.level, h.overfill, h.variance, h.lastFill, h.filling, h.shortfall, h.others⟩
  refine ⟨fun hp => ?_, fun hp => ?_, fun hp => ?_⟩
  · have hans := answers_acceptOr_on_ctx (c := .skipNomination src) hn hctx hf hr skipNomination hp rfl rfl
    refine ⟨fun h => ?_, fun k m h hcur hnom hstart hlast => ?_, fun k m h hcur hnom => ?_⟩
    · rwa [skipNomination_refused h] at hans
    · rw [skipNomination_not_started h hcur (Ctx.not_started hnom hstart)] at hans
      rw [takeUpNext, takeUpFrom_none_waiting ?_, enterDone_updCtx] at hans
      · exact hans
      rw [State.ctx_updCtx]
      exact none_waiting_modify (fun _ => show NomStatus.skipped ≠ .waiting by decide)
        (fun j x hx hw => by rw [Option.some.inj (hcur.symm.trans (hlast j x hx hw)), Nat.add_sub_cancel])
    · rcases hstart : m.startMeter with _ | start
      · obtain ⟨t, heq, hstate, hhalt, hskip, htanks⟩ := skipNomination_skips h hcur hnom hstart
        rw [heq] at hans
        exact ⟨t, hans, hstate, hhalt, fun _ => ⟨by rw [hskip, hstart], htanks⟩, nofun⟩
      · obtain ⟨t, heq, hstate, hhalt, hskip, hcredit⟩ := skipNomination_credits h hcur hnom hstart
        rw [heq] at hans
        refine ⟨t, hans, hstate, hhalt, nofun, fun start' hstart' => ?_⟩
        cases hstart'
        exact ⟨by rw [hskip, hstart], fun r hr => hcredited (hcredit r hr)⟩
  · have hans := answers_acceptOr_on_ctx (c := .abandonDelivery src) hn hctx hf hr abandonDelivery hp rfl rfl
    refine ⟨fun h => ?_, fun h => ?_⟩
    · rwa [abandonDelivery_refused h] at hans
    · cases hrun : c.running with
      | false =>
        obtain ⟨nextId, line, heq⟩ := abandonDelivery_not_running h hrun
        rw [heq] at hans
        refine ⟨_, hans, nofun, fun _ => ⟨State.ctx_updCtx .., rfl, ?_⟩⟩
        simp
      | true =>
        obtain ⟨m, hnom, start, hstart⟩ := Ctx.start_of_running hrun
        obtain ⟨t, port, heq, hend, hcredit, hroom, hport, hm⟩ := abandonDelivery_running h hrun hnom hstart
        rw [heq] at hans
        refine ⟨t, hans, fun _ k start' m' hcur hnom' hstart' => ?_, nofun⟩
        cases hnom.symm.trans hnom'
        cases hstart.symm.trans hstart'
        rw [Ctx.updCurrent_of_current hcur] at hend
        rw [hport]
        exact ⟨hend, fun r hr => hcredited (hcredit r hr), fun hlen => Port.mem_append_self rfl (by omega),
          Port.mem_append_or_overflow rfl port, accounts_of_standing hm.standing, hm.feeders,
          site_of_standing hm.standing, hm.pass⟩
  · have hans := answers_on_ctx (c := .collectDocket src) hn hctx hf hr collectDocketOwn hp rfl rfl
    refine ⟨fun h => ?_, fun h => ?_⟩
    · rwa [collectDocketOwn_done h] at hans
    · rwa [collectDocketOwn_refused h] at hans

/-- Settles O56: a reading is one update of the context its bowser serves; a hose completion adds the credit, and what
goes on from it leaves the nomination filled and the tanks. -/
theorem bowserReports : Obligations.BowserReports := by
  constructor
  · intro s u slot node ml metered
    refine ⟨fun hrep => ?_, fun hrep => ?_⟩
    · rw [exec_bowserMeter_of_reports hrep]
      exact ⟨fun h => by rw [bowserReport_unmatched h], fun n h => by rw [bowserReport_matched h]; rfl⟩
    · rw [exec_hoseDone_of_reports hrep]
      refine ⟨fun h => by rw [hoseReport_unmatched h], fun n h => ?_⟩
      rw [hoseReport_matched h]
      refine ⟨fun hrun => by rw [hrun]; rfl, fun k start m r hcur hnom hstart hstatus hr => ?_⟩
      obtain ⟨hfilled, hcredit⟩ := completeCurrent_filled (n := n) (s := u.updCtx n (Ctx.heard ml))
        (by rw [State.ctx_updCtx]; exact hcur) (by rw [State.ctx_updCtx]; exact hnom) hstart
        (by rwa [State.tank?, State.updCtx_tanks])
      rw [State.ctx_updCtx] at hfilled hcredit
      have hcredited := hcredit.congr rfl (State.updCtx_tanks ..).symm (State.updCtx_clock ..).symm
      have hm : Moves [] u (completeCurrent n (u.updCtx n (Ctx.heard ml))) :=
        (updCtx_moves u n _).trans (completeCurrent_moves _ n)
      rw [Ctx.running_of_start hnom hstart hstatus]
      exact ⟨_, rfl, hfilled, hcredited.level, hcredited.overfill, hcredited.variance, hcredited.lastFill,
        hcredited.filling, hcredited.shortfall, hcredited.others, accounts_of_standing hm.standing, hm.feeders,
        site_of_standing hm.standing⟩
  · intro s u slot node n ml meter accepted e hrep _ he
    rw [exec_valveShutReply_of_replies hrep he]
    refine ⟨fun h => by rw [h]; rfl, fun h hmeter hstate hcause => ?_⟩
    rw [h, hmeter]
    exact congrArg _ (valveShutOutcome_suspends hstate hcause ml)

/-- Settles O57: a deadline reached is one equation of its context, by the nomination taken up, the stall or the end of
SUSPENDING. -/
theorem deliveryDeadlines : Obligations.DeliveryDeadlines := by
  intro s n hctx c ordered
  refine ⟨fun hres => exec_deadline_held hres n, fun hres => ?_⟩
  rw [exec_gatheringDeadline hres, exec_fillDeadline hres, exec_settleDeadline hres]
  refine ⟨fun h => by rw [gatheringEnds_of_not_reached h], fun h => by rw [fillEnds_of_not_reached h],
    fun h => by rw [settleEnds_of_not_reached h], fun d v m hstate hd hle hm hw htouch hreq hv => ?_,
    fun d hstate hd hle => ?_, fun d hstate hd hle hcause => ?_⟩
  · obtain ⟨hfill, hv⟩ := fillTarget_of_positive hv
    have hk : c.noms[1 - 1]? = some m := List.head?_eq_getElem? ▸ hm
    rw [gatheringEnds_of_reached hctx hstate hd hle,
      takeUpNext_first (m := m) (by simpa using hm) hw (by simpa using hfill),
      makeCurrent_fills (by simpa using hk) (by simp) (by simpa using hreq) (by simpa using htouch),
      State.updCtx_updCtx, toBowser_updCtx (by rfl), State.tankRec_updCtx, hv]
    simp [ordered, c]
  · obtain ⟨noms, hcur⟩ := Ctx.updCurrent_eq (fun m => { m with status := .overrun }) (s.ctx n)
    rw [fillEnds_of_reached hctx hstate hd hle, stall_updCtx (by rw [hcur]) (by rw [hcur])]
  · rw [settleEnds_of_reached hctx hstate hd hle, endSuspending_of_cause hcause]

end Sys2Proof.Proofs

/-! ## SUPPORT. CLOSE_PERIOD and COLLECT_STATEMENT (R147, R148, R158) -/

namespace Sys2Proof.Machine

section
variable {s u : State} {src : Source} {a : Asked} {t : TableId} {n : Nat}

/-- An operational request without parameters, its record held and its right passed, comes to its own checks (R174). -/
theorem operate_of_names (own : Nat → State → Answered) (hn : a.names t n) (hheld : u.holds t n = true)
    (hr : a.mayReach t n .request u = true) (hf : a.req.fields = []) : operate a t own u = own n u := by
  rw [operate, onRecord_of_names hn hheld hr, Asked.params, hf]
  rfl

/-! ### CLOSE_PERIOD (R147, R148) -/

/-- Check 4 asks ring 0 (R173). -/
theorem execClosePeriod_of_names (hp : Presents s .closePeriod src a u) (hn : a.names .site 1) :
    Answers (.closePeriod src) s a
      (if a.ring = 0 then operate a .site closePeriodOwn u else refuse .notPermitted u) := by
  have hmatched : a.req.matched .closePeriod = true := hn.matched rfl (by decide) (by decide)
  unfold Answers
  rw [exec, execClosePeriod, runRequest_of_presents _ hp, hmatched]
  by_cases hring : a.ring = 0 <;> simp [ringAdmits, hring]

theorem closePeriodOwn_of_opened (h : u.site.closeState = .opened) (n : Nat) : closePeriodOwn n u =
    accept .started .site n (closeDue (u.onSite (fun p => { p with minuteCount := 0 }))) := if_pos h

theorem closePeriodOwn_of_ne (h : u.site.closeState ≠ .opened) (n : Nat) : closePeriodOwn n u = refuse .busy u :=
  if_neg h

/-- A running pass takes the closing mark (R64). -/
theorem closeDue_of_running (h : s.pass.state = .running) : closeDue s =
    (s.onSite (fun p => { p with closeState := .closingPass })).onPass (fun p => { p with closing := true }) := by
  simp [closeDue, requestClosingPass, h]

/-- With no pass running a closing pass starts, and the scan deadline starts over (R64). -/
theorem closeDue_of_idle (h : s.pass.state = .idle) : closeDue s =
    startPass true (setScan (s.onSite (fun p => { p with closeState := .closingPass }))) := by
  simp [closeDue, requestClosingPass, h]

/-! ### COLLECT_STATEMENT (R158) -/

/-- Every ring may ask; the account's code decides at checks 5 to 7 (R173). -/
theorem execCollectStatement_of_names (hp : Presents s .collectStatement src a u) (hn : a.names .accounts n) :
    Answers (.collectStatement src) s a (operate a .accounts collectStatementOwn u) :=
  congrArg Host.Outcome.next (runRequest_of_names _ hp hn rfl (by decide) (by decide) rfl)

variable {r : AccountRec} {x : Statement}

theorem State.accountRec_of_find (h : u.account? n = some r) : u.accountRec n = r := by
  rw [State.accountRec, h]; rfl

theorem holds_account (h : u.account? n = some r) : u.holds .accounts n = true := by
  rw [State.holds, h]; rfl

/-- The right on an account is ring 0 or its own code (R171, R172). -/
theorem mayReach_account (h : u.account? n = some r) (need : Need) :
    a.mayReach .accounts n need u = (decide (a.ring = 0) || r.code.grants need) := by
  rw [← State.accountRec_of_find h]; rfl

theorem collectStatementOwn_of_none (h : u.account? n = some r) (hx : r.statement = none) :
    collectStatementOwn n u = refuse .wrongState u := by
  simp [collectStatementOwn, State.accountRec_of_find h, hx]

theorem collectStatementOwn_of_held (h : u.account? n = some r) (hx : r.statement = some x) :
    collectStatementOwn n u =
      { state := collected n r { x with collected := true } u
        response := { answer := .done, record := n, fields := ({ x with collected := true } : Statement).pairs }
        release := true } := by
  simp [collectStatementOwn, State.accountRec_of_find h, hx]

/-- A collection writes the accounts alone. -/
theorem collected_frame (n : Nat) (r : AccountRec) (x : Statement) (u : State) :
    collected n r x u = { u with accounts := (collected n r x u).accounts } := by
  unfold collected; split <;> rfl

theorem collected_closedOut (h : r.status = .closedOut) (x : Statement) (u : State) (m : Nat) :
    (collected n r x u).account? m = if m = n then none else u.account? m := by
  rw [collected, if_pos h]; exact Tbl.find_del ..

theorem collected_kept (h : r.status ≠ .closedOut) (x : Statement) (u : State) (m : Nat) :
    (collected n r x u).account? m =
      if m = n then (u.account? m).map (fun y => { y with statement := some x }) else u.account? m := by
  rw [collected, if_neg h]; exact State.account?_updAccount ..

theorem collected_account?_ne {m : Nat} (hm : m ≠ n) (r : AccountRec) (x : Statement) (u : State) :
    (collected n r x u).account? m = u.account? m := by
  by_cases h : r.status = .closedOut
  · rw [collected_closedOut h, if_neg hm]
  · rw [collected_kept h, if_neg hm]

end

end Sys2Proof.Machine

/-! ## SUPPORT. The largest remainders: places in their order, and the shares of a set's fuel (R153, R154) -/

namespace Sys2Proof.Machine

/-! ### Places in the order of R154 -/

/-- In the order of R154 position `j` comes before position `k`: the larger remainder, and the earlier entry among
equals. -/
def precedes (rems : List Nat) (j k : Nat) : Bool :=
  decide ((rems[k]?).getD 0 < (rems[j]?).getD 0 ∨ ((rems[j]?).getD 0 = (rems[k]?).getD 0 ∧ j < k))

/-- The place of position `k`: how many positions come ahead of it. -/
def place (rems : List Nat) (k : Nat) : Nat := aheadOf rems k ((rems[k]?).getD 0)

section
variable {rems : List Nat} {i j k : Nat}

theorem precedes_iff : precedes rems j k = true ↔
    (rems[k]?).getD 0 < (rems[j]?).getD 0 ∨ ((rems[j]?).getD 0 = (rems[k]?).getD 0 ∧ j < k) := decide_eq_true_iff

theorem precedes_irrefl (rems : List Nat) (k : Nat) : precedes rems k k = false := by simp [precedes]

theorem precedes_trans (h : precedes rems i j = true) (h' : precedes rems j k = true) :
    precedes rems i k = true := by
  rw [precedes_iff] at *; omega

theorem precedes_total (h : j ≠ k) : precedes rems j k = true ∨ precedes rems k j = true := by
  rw [precedes_iff, precedes_iff]; omega

/-- A place is the number of positions ahead. -/
theorem place_eq_card (rems : List Nat) (k : Nat) :
    place rems k = ((Finset.range rems.length).filter (fun j => precedes rems j k)).card := by
  have hzip : rems.zipIdx = (List.range rems.length).map (fun j => ((rems[j]?).getD 0, j)) := by
    refine List.ext_getElem (by simp) fun j hj _ => ?_
    simp only [List.length_zipIdx] at hj
    simp [hj]
  rw [← Nat.count_eq_card_filter_range, place, aheadOf, hzip, List.countP_map]
  exact List.countP_congr (by simp [precedes])

theorem place_lt (h : k < rems.length) : place rems k < rems.length := by
  rw [place_eq_card]
  refine (Finset.card_lt_card ((Finset.filter_ssubset).2 ⟨k, Finset.mem_range.2 h, ?_⟩)).trans_eq
    (Finset.card_range _)
  simp [precedes_irrefl]

/-- A position has its place behind those of the positions ahead of it. -/
theorem place_lt_place (hj : j < rems.length) (h : precedes rems j k = true) : place rems j < place rems k := by
  rw [place_eq_card, place_eq_card]
  refine Finset.card_lt_card ((Finset.ssubset_iff_of_subset fun i hi => ?_).2 ⟨j, ?_, ?_⟩)
  · obtain ⟨hmem, hij⟩ := Finset.mem_filter.1 hi
    exact Finset.mem_filter.2 ⟨hmem, precedes_trans hij h⟩
  · exact Finset.mem_filter.2 ⟨Finset.mem_range.2 hj, h⟩
  · simp [precedes_irrefl]

/-- Of two positions the one at the lower place comes first. -/
theorem precedes_of_place_lt (hj : j < rems.length) (h : place rems k < place rems j) :
    precedes rems k j = true := by
  refine (precedes_total fun hkj => absurd h (by rw [hkj]; exact lt_irrefl _)).resolve_right fun hjk => ?_
  exact absurd (place_lt_place hj hjk) (by omega)

theorem place_injOn (rems : List Nat) : Set.InjOn (place rems) (Finset.range rems.length) := by
  intro j hj k hk hjk
  by_contra hne
  rcases precedes_total (rems := rems) hne with h | h
  · exact absurd (place_lt_place (Finset.mem_range.1 hj) h) (by omega)
  · exact absurd (place_lt_place (Finset.mem_range.1 hk) h) (by omega)

/-- The places are 0 to one less than the length, each once; so as many positions have one below `left` as there are
numbers below `left`. -/
theorem sum_place_lt {left : Nat} (h : left ≤ rems.length) :
    ((List.range rems.length).map (fun k => if place rems k < left then 1 else 0)).sum = left := by
  have hplaces : (Finset.range rems.length).image (place rems) = Finset.range rems.length := by
    refine Finset.eq_of_subset_of_card_le (fun m hm => ?_) (Finset.card_image_of_injOn (place_injOn rems)).ge
    obtain ⟨k, hk, rfl⟩ := Finset.mem_image.1 hm
    exact Finset.mem_range.2 (place_lt (Finset.mem_range.1 hk))
  calc ((List.range rems.length).map (fun k => if place rems k < left then 1 else 0)).sum
      = ∑ k ∈ Finset.range rems.length, if place rems k < left then 1 else 0 := rfl
    _ = ∑ m ∈ (Finset.range rems.length).image (place rems), if m < left then 1 else 0 :=
        (Finset.sum_image (f := fun m => if m < left then 1 else 0) (place_injOn rems)).symm
    _ = ((Finset.range rems.length).filter (· < left)).card := by rw [hplaces, Finset.sum_boole]; rfl
    _ = left := by
        have hbelow : (Finset.range rems.length).filter (· < left) = Finset.range left := by
          ext m; simp only [Finset.mem_filter, Finset.mem_range]; omega
        rw [hbelow, Finset.card_range]

end

/-! ### Floors and remainders (R153) -/

section
variable (f total : Nat) (qs : List Quota)

/-- The floors of the quotas. -/
def shareFloors : List Nat := qs.map (fun q => f * q.wh / total)

/-- What each quota leaves over. -/
def shareRems : List Nat := qs.map (fun q => f * q.wh % total)

/-- The ml that the floors leave to hand out. -/
def shareLeft : Nat := f - (shareFloors f total qs).sum

@[simp] theorem shareRems_length : (shareRems f total qs).length = qs.length := List.length_map _

@[simp] theorem shareFloors_length : (shareFloors f total qs).length = qs.length := List.length_map _

/-- What the quota at position `k` gets: its floor, and one ml more at a place below what is left. -/
theorem shareFuel_getElem? (k : Nat) : (shareFuel f total qs)[k]? = (qs[k]?).map (fun q =>
    (q.account, f * q.wh / total + if place (shareRems f total qs) k < shareLeft f total qs then 1 else 0)) := by
  simp only [shareFuel, List.getElem?_map, List.getElem?_zipIdx, Option.map_map, Nat.zero_add]
  refine Option.map_congr fun q hq => ?_
  simp [hq, place, shareRems, shareLeft, shareFloors]

theorem shareFuel_accounts : (shareFuel f total qs).map Prod.fst = qs.map Quota.account := by
  refine List.ext_getElem? fun k => ?_
  simp only [List.getElem?_map, shareFuel_getElem?, Option.map_map]
  rfl

/-- The floors and the remainders make up the whole. -/
theorem shareFloors_rems_sum : total * (shareFloors f total qs).sum + (shareRems f total qs).sum
    = f * (qs.map Quota.wh).sum := by
  induction qs with
  | nil => simp [shareFloors, shareRems]
  | cons q qs ih =>
    simp only [shareFloors, shareRems, List.map_cons, List.sum_cons, mul_add] at ih ⊢
    have := Nat.div_add_mod (f * q.wh) total
    omega

variable {f total qs}

/-- The floors are no more than the fuel, and what they leave is no more than one ml a quota. -/
theorem shareLeft_bounds (hpos : 0 < total) (htotal : (qs.map Quota.wh).sum = total) :
    (shareFloors f total qs).sum + shareLeft f total qs = f ∧ shareLeft f total qs ≤ qs.length := by
  have hsum := shareFloors_rems_sum f total qs
  rw [htotal, Nat.mul_comm f] at hsum
  have hle : (shareFloors f total qs).sum ≤ f := Nat.le_of_mul_le_mul_left (by omega) hpos
  have hrems : (shareRems f total qs).sum ≤ qs.length * total := by
    refine (List.sum_le_card_nsmul _ total fun m hm => ?_).trans_eq (by simp)
    obtain ⟨q, -, rfl⟩ := List.mem_map.1 hm
    exact (Nat.mod_lt _ hpos).le
  have hf : f ≤ (shareFloors f total qs).sum + qs.length :=
    Nat.le_of_mul_le_mul_left (by rw [mul_add, Nat.mul_comm total qs.length]; omega) hpos
  unfold shareLeft
  omega

/-- The shares are the floors and the ml handed out. -/
theorem shareFuel_amounts : (shareFuel f total qs).map Prod.snd =
    (List.range qs.length).map (fun k => ((shareFloors f total qs)[k]?).getD 0
      + if place (shareRems f total qs) k < shareLeft f total qs then 1 else 0) := by
  rw [List.range_eq_range', ← List.zipIdx_map_snd, shareFuel, List.map_map, List.map_map]
  rfl

theorem shareFuel_sum (hpos : 0 < total) (htotal : (qs.map Quota.wh).sum = total) :
    ((shareFuel f total qs).map Prod.snd).sum = f := by
  obtain ⟨hfloors, hleft⟩ := shareLeft_bounds (f := f) hpos htotal
  have hextra := sum_place_lt (rems := shareRems f total qs) ((shareRems_length f total qs).symm ▸ hleft)
  have hfloor : (List.range qs.length).map (fun k => ((shareFloors f total qs)[k]?).getD 0)
      = shareFloors f total qs := by
    refine List.ext_getElem (by simp) fun k hk _ => ?_
    rw [List.length_map, List.length_range, ← shareFloors_length f total qs] at hk
    simp [List.getElem?_eq_getElem hk]
  rw [shareRems_length] at hextra
  rw [shareFuel_amounts, List.sum_map_add, hfloor, hextra, hfloors]

/-- The share at position `k`, read back from the shares. -/
theorem shareFuel_snd {k : Nat} {q : Quota} {p : Nat × Nat} (hq : qs[k]? = some q)
    (hp : (shareFuel f total qs)[k]? = some p) :
    p.2 = f * q.wh / total + if place (shareRems f total qs) k < shareLeft f total qs then 1 else 0 := by
  rw [shareFuel_getElem?, hq] at hp
  obtain rfl := Option.some.inj hp
  rfl

theorem shareRems_getD {k : Nat} {q : Quota} (hq : qs[k]? = some q) :
    ((shareRems f total qs)[k]?).getD 0 = f * q.wh % total := by
  simp [shareRems, hq]

/-- A quota that gets one ml more comes before one that does not (R154). -/
theorem shareFuel_order {k j : Nat} {q q' : Quota} {p p' : Nat × Nat} (hq : qs[k]? = some q)
    (hp : (shareFuel f total qs)[k]? = some p) (hq' : qs[j]? = some q') (hp' : (shareFuel f total qs)[j]? = some p')
    (hmore : p.2 = f * q.wh / total + 1) (hfloor : p'.2 = f * q'.wh / total) :
    f * q'.wh % total < f * q.wh % total ∨ (f * q'.wh % total = f * q.wh % total ∧ k < j) := by
  have hk : place (shareRems f total qs) k < shareLeft f total qs := by
    by_contra h
    have := shareFuel_snd hq hp
    rw [if_neg h] at this
    omega
  have hj : ¬ place (shareRems f total qs) j < shareLeft f total qs := fun h => by
    have := shareFuel_snd hq' hp'
    rw [if_pos h] at this
    omega
  have hlen : j < (shareRems f total qs).length := by
    rw [shareRems_length]; exact (List.getElem?_eq_some_iff.1 hq').1
  have hahead := precedes_iff.1 (precedes_of_place_lt (k := k) hlen (by omega))
  rw [shareRems_getD hq, shareRems_getD hq'] at hahead
  exact hahead.imp_right fun ⟨heq, hlt⟩ => ⟨heq.symm, hlt⟩

end

/-! ### The fuel of a set (R153) -/

section
variable (r : SetRec)

/-- The quotas stand for all the Wh drawn from the set. -/
theorem SetRec.quotas_wh_sum : (r.quotas.map Quota.wh).sum = r.drawnWh := by
  have hdraws : (r.draws.map (fun d => ({ account := d.1, wh := d.2 } : Quota))).map Quota.wh = r.draws.map Prod.snd :=
    List.map_map
  rw [SetRec.quotas, SetRec.drawnWh, List.map_append, List.sum_append, hdraws]
  by_cases h : 0 < r.pooled
  · simp [h]
  · simp [Nat.eq_zero_of_not_pos h]

variable {r}

theorem SetRec.apportioned_of_none (h : r.periodBurnt = 0) : r.apportioned = [] := if_pos h

theorem SetRec.apportioned_undrawn (hf : 0 < r.periodBurnt) (h : r.drawnWh = 0) :
    r.apportioned = [(1, r.periodBurnt)] := by
  rw [SetRec.apportioned, if_neg hf.ne', if_pos h]

theorem SetRec.apportioned_drawn (hf : 0 < r.periodBurnt) (h : 0 < r.drawnWh) :
    r.apportioned = shareFuel r.periodBurnt r.drawnWh r.quotas := by
  rw [SetRec.apportioned, if_neg hf.ne', if_neg h.ne']

/-- Nothing of a set's fuel is lost or made in the division. -/
theorem SetRec.apportioned_sum (r : SetRec) : (r.apportioned.map Prod.snd).sum = r.periodBurnt := by
  rcases Nat.eq_zero_or_pos r.periodBurnt with hf | hf
  · rw [SetRec.apportioned_of_none hf, hf]; rfl
  · rcases Nat.eq_zero_or_pos r.drawnWh with h | h
    · rw [SetRec.apportioned_undrawn hf h]; rfl
    · rw [SetRec.apportioned_drawn hf h, shareFuel_sum h r.quotas_wh_sum]

end

end Sys2Proof.Machine

/-! ## SUPPORT. The statements of a close (R155, R156) -/

namespace Sys2Proof.Machine

/-- Changing every record by its number changes what is read at each number that is listed. -/
theorem Tbl.find_mapNumbered {α : Type} (t : Tbl α) (f : Nat → α → α) (m : Nat) :
    Tbl.find (t.map (fun e => (e.1, f e.1 e.2))) m = (t.find m).map (f m) := by
  induction t with
  | nil => rfl
  | cons e t ih =>
    obtain ⟨k, b⟩ := e
    simp only [List.map_cons, Tbl.find_cons, ih]
    split
    next h => rw [h]; rfl
    next => rfl

theorem AccountRec.billed_iff {n : Nat} {x : AccountRec} : x.billed n = true ↔
    n = 1 ∨ (x.drawn = true ∧ (x.status = .opened ∨ x.status = .retiring)) := by
  simp [AccountRec.billed]

/-- Each account billed reads with the statement of the close, every other as it was. -/
theorem writeStatements_account? (s : State) (n : Nat) : (writeStatements s).account? n =
    (s.account? n).map (fun x =>
      if x.billed n then x.billFor s.site.periodNumber s.site.periodStart s.clock else x) :=
  Tbl.find_mapNumbered s.accounts
    (fun k x => if x.billed k then x.billFor s.site.periodNumber s.site.periodStart s.clock else x) n

end Sys2Proof.Machine

/-! ## The statements of billing periods, settled -/

namespace Sys2Proof.Proofs

open Sys2Proof.Machine

/-- Settles O58: check 4 asks ring 0, the close state admits OPEN alone, and the pass state says how the closing pass is
had. -/
theorem closePeriod : Obligations.ClosePeriod := by
  intro s u src a hp hn hf due
  have hans := execClosePeriod_of_names hp hn
  refine ⟨fun hring => by rwa [if_neg hring] at hans, fun hring => ?_⟩
  rw [if_pos hring, operate_of_names _ hn rfl (Asked.mayReach_ring0 hring ..) hf] at hans
  refine ⟨fun hne => by rwa [closePeriodOwn_of_ne hne] at hans, fun hopen => ?_⟩
  rw [closePeriodOwn_of_opened hopen] at hans
  exact ⟨fun hrun => by rwa [closeDue_of_running (by exact hrun)] at hans,
    fun hidle => by rwa [closeDue_of_idle (by exact hidle)] at hans⟩

/-- Settles O59: the right on the account is ring 0 or its code, and a collection writes that account alone. -/
theorem collectStatement : Obligations.CollectStatement := by
  intro s u src a n r hp hn hf hr
  have hans := execCollectStatement_of_names hp hn
  have hheld := holds_account hr
  have hreach := mayReach_account (a := a) hr .request
  refine ⟨fun hring hcode => ?_, fun hallowed => ?_⟩
  · rwa [operate, onRecord_noRight hn hheld (by simp [hreach, hring, hcode])] at hans
  · rw [operate_of_names _ hn hheld (by rw [hreach]; simpa [Asked.allowed] using hallowed) hf] at hans
    refine ⟨fun hnone => by rwa [collectStatementOwn_of_none hr hnone] at hans, fun x hx => ?_⟩
    rw [collectStatementOwn_of_held hr hx] at hans
    refine ⟨_, hans, collected_frame .., fun hclosed => ?_, fun hkept => ?_, fun m hm => collected_account?_ne hm ..⟩
    · rw [collected_closedOut hclosed, if_pos rfl]
    · rw [collected_kept hkept, if_pos rfl, hr]; rfl

/-- Settles O60: the places of the remainders are 0, 1, 2, … each once, so exactly the ml that the floors leave are
handed out, to the positions that come first; a close then writes each account by its own number. -/
theorem fuelApportioned : Obligations.FuelApportioned := by
  refine ⟨fun r => ⟨r.apportioned_sum, fun h hf => SetRec.apportioned_undrawn hf h, fun h hf => ?_⟩,
    fun s n x hx => ?_⟩
  · rw [SetRec.apportioned_drawn hf h]
    refine ⟨shareFuel_accounts .., fun k q p hq hp => ⟨?_, fun j q' p' hq' hp' hmore hfloor =>
      shareFuel_order hq hp hq' hp' hmore hfloor⟩⟩
    rw [shareFuel_snd hq hp]
    split
    · exact .inr rfl
    · exact .inl rfl
  · rw [writeStatements_account?, hx, ← AccountRec.billed_iff, Option.map_some]
    refine ⟨fun hbilled => ?_, fun hnot => by rw [if_neg hnot]⟩
    rw [if_pos hbilled]
    rfl

end Sys2Proof.Proofs

/-! ## SUPPORT. What every write of the machine keeps

The events of the machine are made of a few kinds of write. A property of states that each kind keeps is kept by every
event: one lemma an operation, in the order of the model. A table may be written in any way that keeps its form; what
is written to the line, to the port and beside them is told apart by kind, so that the lemmas serve an invariant of
any of them. -/

namespace Sys2Proof.Machine

/-- From `t` to `u` the canonical form of a table is not lost. -/
def Tbl.FormKept {α : Type} (cap : Nat) (t u : Tbl α) : Prop := t.wf cap = true → u.wf cap = true

section
variable {α : Type} (cap : Nat) (t : Tbl α)

theorem Tbl.FormKept.upd (n : Nat) (f : α → α) : Tbl.FormKept cap t (t.upd n f) := (Tbl.wf_upd t cap n f).trans
theorem Tbl.FormKept.updAll (f : α → α) : Tbl.FormKept cap t (t.updAll f) := (Tbl.wf_updAll t cap f).trans
theorem Tbl.FormKept.del (n : Nat) : Tbl.FormKept cap t (t.del n) := Tbl.wf_del n

/-- A record written where a FREE one was found is in the table's range. -/
theorem Tbl.FormKept.putFree (h : (t.lowestFree cap).isSome = true) (a : α) :
    Tbl.FormKept cap t (t.put ((t.lowestFree cap).getD 0) a) := by
  obtain ⟨n, hn⟩ := Option.isSome_iff_exists.1 h
  obtain ⟨-, hlow, hhigh⟩ := Tbl.lowestFree_some hn
  rw [hn]
  exact fun hw => Tbl.wf_put a hw hlow hhigh

end

/-- `p` is kept by each kind of write that the events of the machine are made of. -/
structure KeptByWrites (p : State → Prop) : Prop where
  /-- Writes beside the tables, the line and the port. -/
  beside : ∀ {s t}, (∃ clock minutesTaken resetHeld nextId tagIndex ctx1 ctx2 site pass resetWork pending, t =
    { s with clock, minutesTaken, resetHeld, nextId, tagIndex, ctx1, ctx2, site, pass, resetWork, pending }) →
    p s → p t
  /-- Writes to the line that leave its queue and backlog. -/
  aroundQueue : ∀ {s t}, (∃ exchanges slots rxHold txHold sent answered, t =
    { s with line := { s.line with exchanges, slots, rxHold, txHold, sent, answered } }) → p s → p t
  order : ∀ {s} d k b q, p s → p (sendOrder d k b q s)
  query : ∀ {s} d k q front, p s → p (offerQuery d k q front s).1
  outcome : ∀ {s} d r, p s → p (offerOutcome d r s)
  leave : ∀ {s f}, f ∈ s.line.queue → p s → p (s.onLine (Line.leave f))
  raise : ∀ {s} k t n v, p s → p (raise k t n v s)
  respond : ∀ {s} r, p s → p (s.onPort (Port.respond r))
  notice : ∀ {s}, p s → p (s.onPort (fun q => q.takeNotice.1))
  zeros : ∀ {s} n, p s → p (s.onPort (Port.zeros n))
  read : ∀ {s} n, p s → p (s.onPort (readPort n))
  transact : ∀ {s} bytes bits, p s → p (s.onPort (transact bytes bits))
  /-- A line reset empties the line and the port (R190, R199). -/
  emptied : ∀ {s}, p s → p ((s.onLine (fun _ => {})).onPort Port.lineReset)
  cold : ∀ pending, p (State.reset.setPending pending)
  sets : ∀ {s} f, Tbl.FormKept Config.sets s.sets (f s.sets) → p s → p (s.onSets f)
  tanks : ∀ {s} f, Tbl.FormKept Config.tanks s.tanks (f s.tanks) → p s → p (s.onTanks f)
  zones : ∀ {s} f, Tbl.FormKept Config.zones s.zones (f s.zones) → p s → p (s.onZones f)
  buses : ∀ {s} f, Tbl.FormKept Config.buses s.buses (f s.buses) → p s → p (s.onBuses f)
  feeders : ∀ {s} f, Tbl.FormKept Config.feeders s.feeders (f s.feeders) → p s → p (s.onFeeders f)
  accounts : ∀ {s} f, Tbl.FormKept Config.accounts s.accounts (f s.accounts) → p s → p (s.onAccounts f)
  nodes : ∀ {s} f, Tbl.FormKept Config.nodes s.nodes (f s.nodes) → p s → p (s.onNodes f)

namespace KeptByWrites

variable {p : State → Prop} (h : KeptByWrites p) {s : State} (hs : p s) (n : Nat)
include h hs

/-! ### One record or one unit -/

theorem updSet (f : SetRec → SetRec) : p (s.updSet n f) := h.sets _ (.upd _ _ n f) hs
theorem updTank (f : TankRec → TankRec) : p (s.updTank n f) := h.tanks _ (.upd _ _ n f) hs
theorem updZone (f : ZoneRec → ZoneRec) : p (s.updZone n f) := h.zones _ (.upd _ _ n f) hs
theorem updBus (f : BusRec → BusRec) : p (s.updBus n f) := h.buses _ (.upd _ _ n f) hs
theorem updFeeder (f : FeederRec → FeederRec) : p (s.updFeeder n f) := h.feeders _ (.upd _ _ n f) hs
theorem updAccount (f : AccountRec → AccountRec) : p (s.updAccount n f) := h.accounts _ (.upd _ _ n f) hs
theorem onSite (f : Site → Site) : p (s.onSite f) := h.beside ⟨_, _, _, _, _, _, _, _, _, _, _, rfl⟩ hs
theorem onPass (f : Pass → Pass) : p (s.onPass f) := h.beside ⟨_, _, _, _, _, _, _, _, _, _, _, rfl⟩ hs
theorem onResetWork (f : ResetWork → ResetWork) : p (s.onResetWork f) :=
  h.beside ⟨_, _, _, _, _, _, _, _, _, _, _, rfl⟩ hs
theorem onTagIndex (f : Tbl (List Nat) → Tbl (List Nat)) : p (s.onTagIndex f) :=
  h.beside ⟨_, _, _, _, _, _, _, _, _, _, _, rfl⟩ hs
theorem setPending (q : List Instr) : p (s.setPending q) := h.beside ⟨_, _, _, _, _, _, _, _, _, _, _, rfl⟩ hs
theorem bumpId : p s.bumpId := h.beside ⟨_, _, _, _, _, _, _, _, _, _, _, rfl⟩ hs
theorem updCtx (f : Ctx → Ctx) : p (s.updCtx n f) := by
  unfold State.updCtx
  split <;> exact h.beside ⟨_, _, _, _, _, _, _, _, _, _, _, rfl⟩ hs

/-! ### Tanks and the burn estimate -/

theorem raiseIfDry (before : Nat) : p (raiseIfDry n before s) :=
  iteInduction (fun _ => h.raise _ _ _ _ hs) (fun _ => hs)
theorem burnFromSupply (tank : Option Nat) (ml : Nat) : p (burnFromSupply tank ml s) := by
  cases tank with
  | none => exact hs
  | some k => exact h.raiseIfDry (h.updTank hs k _) k _
theorem estimateSet : p (estimateSet n s) := by
  unfold Machine.estimateSet
  split
  · exact hs
  · refine iteInduction (fun _ => hs) (fun _ => h.burnFromSupply (h.updSet ?_ n _) _ _)
    exact iteInduction (fun _ => h.raise _ _ _ _ hs) (fun _ => hs)
theorem evalLowMark : p (evalLowMark n s) := by
  unfold Machine.evalLowMark
  split
  · exact hs
  · exact iteInduction (fun _ => h.raise _ _ _ _ (h.updTank hs n _))
      (fun _ => iteInduction (fun _ => h.updTank hs n _) (fun _ => hs))
theorem recomputeTank : p (recomputeTank n s) := h.evalLowMark (h.updTank hs n _) n
theorem recomputeSupply (tank : Option Nat) : p (recomputeSupply tank s) := by
  cases tank with
  | none => exact hs
  | some k => exact h.recomputeTank hs k
theorem estimateAll : p (estimateAll s) :=
  forEach_induct p _ _ (fun n _ _ ht => h.recomputeTank ht n) _
    (forEach_induct p _ _ (fun n _ _ ht => h.estimateSet ht n) s hs)

/-! ### Panels, PENDING changeovers and the start of switching -/

theorem suspendFlow : p (suspendFlow n s) := h.order _ _ _ _ (h.updCtx hs n _)
theorem placeChangeover : p (placeChangeover n s) :=
  iteInduction (fun _ => h.suspendFlow (h.updCtx hs n _) n) (fun _ => h.updCtx hs n _)
theorem switchingBegins (sets : List Nat) : p (switchingBegins sets s) :=
  forEach_induct p _ _ (fun n _ _ ht => iteInduction (fun _ => h.placeChangeover ht n) (fun _ => ht)) s hs
theorem orderPanel (kind set : Nat) : p (orderPanel n kind set s) := h.updBus (h.order _ _ _ _ hs) n _
theorem openUnawaited (set : Nat) : p (openUnawaited n set s) := h.order _ _ _ _ hs
theorem orderSync (set : Nat) : p (orderSync n set s) := h.updBus (h.order _ _ _ _ hs) n _
theorem enterPhase (st : BusState) (seconds : Nat) : p (enterPhase n st seconds s) := h.updBus hs n _
theorem enterDead (set : Nat) : p (enterDead n set s) := h.orderPanel (h.enterPhase hs n _ _) n _ set
theorem leavePending : p (leavePending n s) := by
  refine h.switchingBegins ?_ _
  split
  · exact h.orderSync (h.enterPhase hs n _ _) n _
  · exact h.orderPanel (h.enterPhase hs n _ _) n _ _
  · exact h.enterDead hs n _
  · exact h.enterDead hs n _
  · exact hs
theorem evaluatePending : p (evaluatePending n s) := iteInduction (fun _ => h.leavePending hs n) (fun _ => hs)
theorem evaluateForTank : p (evaluateForTank n s) :=
  forEach_induct p _ _ (fun b _ _ ht => iteInduction (fun _ => h.evaluatePending ht b) (fun _ => ht)) s hs
theorem evaluateAllPending : p (evaluateAllPending s) :=
  forEach_induct p _ _ (fun b _ _ ht => h.evaluatePending ht b) s hs

/-! ### The tank level -/

theorem reconcileTank (reading : Nat) : p (reconcileTank n reading s) :=
  h.evaluateForTank (h.recomputeTank (h.raiseIfDry (h.updTank hs n _) n _) n) n
theorem gaugeReading (reading : Nat) : p (gaugeReading n reading s) :=
  iteInduction (fun _ => h.updTank hs n _) (fun _ => h.reconcileTank hs n reading)
theorem askLevel : p (askLevel n s) := by
  unfold Machine.askLevel
  split
  · exact h.query _ _ _ _ hs
  · exact hs
theorem creditFuel (ml : Nat) : p (creditFuel n ml s) :=
  h.askLevel (h.evaluateForTank (h.recomputeTank (h.updTank hs n _) n) n) n

/-! ### Deliveries -/

theorem enterDone (o : DocketOutcome) : p (enterDone n o s) := h.raise _ _ _ _ (h.updCtx hs n _)
theorem stall : p (stall n s) := h.raise _ _ _ _ (h.updCtx (h.order _ _ _ _ hs) n _)
theorem actOnTakenUp (target : Nat) : p (actOnTakenUp n target s) :=
  iteInduction (fun _ => h.order _ _ _ _ (h.updCtx hs n _))
    (fun _ => iteInduction (fun _ => h.updCtx hs n _) (fun _ => hs))
theorem makeCurrent (k : Nat) (nom : Nomination) : p (makeCurrent n k nom s) :=
  h.actOnTakenUp (h.updCtx hs n _) n _
theorem takeUpFrom (ks : List Nat) : p (takeUpFrom n ks s) := by
  induction ks generalizing s with
  | nil => exact h.enterDone hs n _
  | cons k ks ih =>
    unfold Machine.takeUpFrom
    split
    · exact ih hs
    · exact iteInduction (fun _ => ih hs)
        (fun _ => iteInduction (fun _ => ih (h.updCtx hs n _)) (fun _ => h.makeCurrent hs n _ _))
theorem creditCurrent (st : NomStatus) : p (creditCurrent n st s) := h.creditFuel (h.updCtx hs n _) _ _
theorem resumeWaiting : p (resumeWaiting n s) := h.order _ _ _ _ (h.updCtx hs n _)
theorem goOnToNext : p (goOnToNext n s) :=
  have taken := h.takeUpFrom (h.updCtx hs n _) n _
  iteInduction (fun _ => h.resumeWaiting taken n) (fun _ => taken)
theorem completeCurrent : p (completeCurrent n s) := h.goOnToNext (h.updCtx (h.creditCurrent hs n _) n _) n
theorem resume : p (resume n s) := by
  have hdisp := h.updCtx hs n (fun c => { c with state := .dispensing })
  unfold Machine.resume
  dsimp only
  split
  · exact hdisp
  · split
    case h_1 => exact h.order _ _ _ _ hdisp
    case h_4 => exact hdisp
    case h_5 => exact hdisp
    case h_6 => exact hdisp
    all_goals
      refine iteInduction (fun _ => iteInduction (fun _ => ?_) (fun _ => h.completeCurrent hdisp n)) (fun _ => ?_)
      all_goals exact h.order _ _ _ _ (h.updCtx hdisp n _)
theorem resumeIfFree : p (resumeIfFree n s) := iteInduction (fun _ => h.resume hs n) (fun _ => hs)
theorem reviewChangeover : p (reviewChangeover n s) :=
  iteInduction (fun _ => h.resumeIfFree (h.updCtx hs n _) n) (fun _ => hs)
theorem switchingEnds : p (switchingEnds s) :=
  forEach_induct p _ _ (fun n _ _ ht => h.reviewChangeover ht n) s hs
theorem fillOutcome (serial nom : Nat) (accepted : Option Nat) : p (fillOutcome n serial nom accepted s) := by
  refine iteInduction (fun _ => ?_) (fun _ => hs)
  cases accepted with
  | none => exact h.stall hs n
  | some meter => exact h.updTank (h.updCtx hs n _) _ _
theorem valveOpenOutcome (serial nom : Nat) (accepted : Bool) : p (valveOpenOutcome n serial nom accepted s) :=
  iteInduction (fun _ => h.stall hs n) (fun _ => hs)
theorem endSuspending : p (endSuspending n s) := h.resumeIfFree (h.updCtx hs n _) n
theorem valveShutOutcome (serial : Nat) (accepted : Option Nat) : p (valveShutOutcome n serial accepted s) := by
  cases accepted with
  | none => exact hs
  | some meter =>
    have metered := h.updCtx hs n (Ctx.meter meter)
    exact iteInduction (fun _ => iteInduction (fun _ => h.endSuspending metered n) (fun _ => metered)) (fun _ => hs)
theorem bowserReport (node ml : Nat) : p (bowserReport node ml s) := by
  unfold Machine.bowserReport
  split
  · exact h.updCtx hs _ _
  · exact hs
theorem hoseReport (node ml : Nat) : p (hoseReport node ml s) := by
  unfold Machine.hoseReport
  split
  · exact iteInduction (fun _ => h.completeCurrent (h.updCtx hs _ _) _) (fun _ => h.updCtx hs _ _)
  · exact hs
theorem resumeStalled : p (resumeStalled n s) :=
  iteInduction (fun _ => h.updCtx (h.updCtx hs n _) n _) (fun _ => h.resume (h.updCtx hs n _) n)
theorem gatheringEnds : p (gatheringEnds n s) :=
  iteInduction (fun _ => h.takeUpFrom (h.updCtx hs n _) n _) (fun _ => hs)
theorem fillEnds : p (fillEnds n s) := iteInduction (fun _ => h.stall (h.updCtx hs n _) n) (fun _ => hs)
theorem settleEnds : p (settleEnds n s) := iteInduction (fun _ => h.endSuspending hs n) (fun _ => hs)

/-! ### Switch points and boundary reads -/

theorem offerBoundary : p (offerBoundary n s) := by
  have hq := h.query (s.feederRec n).meter Kind.readMeter (.readMeter n) true hs
  unfold Machine.offerBoundary
  split
  next t id e => rw [e] at hq; exact h.updFeeder hq n _
  next t e => rw [e] at hq; exact h.updFeeder hq n _
theorem askBoundary : p (askBoundary n s) := by
  have marked := h.updFeeder hs n (fun r => { r with boundary := true })
  unfold Machine.askBoundary
  dsimp only
  split
  · exact h.updFeeder marked n _
  · exact h.offerBoundary marked n
theorem markSupplyChange (before : Option Nat) : p (markSupplyChange n before s) :=
  forEach_induct p _ _ (fun k _ _ ht => h.askBoundary ht k) _ (h.feeders _ (.updAll _ _ _) hs)

/-! ### Orders to sets, the arbiter and the end of a part -/

theorem sendCool : p (sendCool n s) := h.order _ _ _ _ hs
theorem sendStop : p (sendStop n s) := h.order _ _ _ _ hs
theorem decSupplies : p (decSupplies n s) :=
  iteInduction (fun _ => h.sendCool (h.updSet hs n _) n) (fun _ => h.updSet hs n _)

section
variable (set : Nat)

theorem sendStart : p (sendStart set n s) := h.updBus (h.updSet (h.order _ _ _ _ hs) set _) n _
theorem orderByOp : p (orderByOp n set s) := by
  have cleared := h.updSet hs set (fun r => { r with startFrame := none })
  unfold Machine.orderByOp
  dsimp only
  split
  · exact h.sendStart (h.updSet cleared set _) n set
  · exact h.sendStart cleared n set
  all_goals exact cleared
theorem startIncoming : p (startIncoming n set s) :=
  have ordered := h.orderByOp hs n set
  h.evaluatePending (iteInduction (fun _ => ordered) (fun _ => h.updBus ordered n _)) n
theorem takePart (role : ChRole) : p (takePart n set role s) := h.updSet hs set _
theorem clearParts (sets : List Nat) : p (forEach sets clearPart s) :=
  forEach_induct p _ _ (fun x _ _ ht => h.updSet ht x _) s hs
theorem beginEmergency : p (beginEmergency n set s) :=
  h.startIncoming (h.takePart (h.updBus hs n _) n set _) n set
theorem queueAll (bs : List Nat) : p (forEach bs queueBus s) :=
  forEach_induct p _ _ (fun b _ _ ht => h.updBus ht b _) s hs
theorem standbyUnavailable : p (standbyUnavailable set n s) := h.raise _ _ _ _ (h.updBus hs n _)
theorem giveStandby (bs : List Nat) : p (giveStandby set bs s) := by
  induction bs generalizing s with
  | nil => exact hs
  | cons b bs ih =>
    exact iteInduction (fun _ => h.beginEmergency (h.queueAll hs bs) b set)
      (fun _ => ih (h.standbyUnavailable hs b set))
theorem arbiterActs (bs : List Nat) : p (arbiterActs set bs s) :=
  iteInduction (fun _ => h.queueAll hs bs) (fun _ => iteInduction
    (fun _ => forEach_induct p _ _ (fun b _ _ ht => h.standbyUnavailable ht b set) s hs)
    (fun _ => h.giveStandby hs set bs))

end

theorem arbitrate (handed : List Nat) : p (arbitrate handed s) :=
  forEach_induct p _ _ (fun set _ _ ht => h.arbiterActs ht set _) s hs
theorem orderByMark : p (orderByMark n s) := by
  have unmarked := h.updSet hs n (fun t => { t with startedByCh := false })
  exact iteInduction
    (fun _ => iteInduction (fun _ => hs) (fun _ => iteInduction (fun _ => h.sendStop unmarked n) (fun _ => unmarked)))
    (fun _ => iteInduction (fun _ => h.sendCool hs n) (fun _ => hs))
theorem partEnd : p (partEnd n s) :=
  have judged : p (reevaluate n s) := iteInduction (fun _ => hs) (fun _ => h.arbiterActs hs n _)
  iteInduction (fun _ => h.updSet judged n _)
    (fun _ => iteInduction (fun _ => judged) (fun _ => h.orderByMark judged n))

end KeptByWrites

end Sys2Proof.Machine

/-! ## SUPPORT. What every write keeps, over the events of buses, sets and meters -/

namespace Sys2Proof.Machine

namespace KeptByWrites

variable {p : State → Prop} (h : KeptByWrites p) {s : State} (hs : p s) (n : Nat)
include h hs

/-! ### Bus events and what follows them -/

theorem endSwitchingIf (switching : Bool) : p (endSwitchingIf switching s) :=
  iteInduction (fun _ => h.switchingEnds hs) (fun _ => hs)
theorem tails (ts : List Tail) : p (forEach ts Tail.take s) := by
  refine forEach_induct p _ _ (fun t _ u hu => ?_) s hs
  cases t with
  | aborted bus reason switching => exact h.endSwitchingIf (h.raise _ _ _ _ hu) _
  | settled bus value switching => exact h.endSwitchingIf (h.raise _ _ _ _ hu) _
  | switchEnds => exact h.switchingEnds hu
  | switchBegins sets => exact h.switchingBegins hu sets
theorem loseSupply : p (loseSupply n s) := by
  unfold Machine.loseSupply
  split
  · exact hs
  · exact h.raise _ _ _ _ (h.markSupplyChange (h.decSupplies (h.updBus hs n _) _) n _)
theorem finish (f : Follow) : p (finish f s) := by
  refine forEach_induct p _ _ (fun x _ _ ht => h.partEnd ht x) _ ?_
  have tailed :=
    h.tails (iteInduction (c := f.drop.isEmpty = true) (fun _ => h.arbitrate hs f.lost) (fun _ => hs)) f.tails
  exact iteInduction (fun _ => tailed)
    (fun _ => h.arbitrate (forEach_induct p _ _ (fun b _ _ ht => h.loseSupply ht b) _ tailed) _)
theorem enterSteady (x : Nat) : p (enterSteady n x s).1 := by
  unfold Machine.enterSteady
  split <;> exact h.updBus hs n _
theorem abortCounts (inc : Nat) (reason : AbortReason) : p (abortCounts n inc reason s) := by
  unfold Machine.abortCounts
  split
  · have counted := h.decSupplies hs inc
    exact iteInduction (fun _ => h.openUnawaited counted n inc) (fun _ => counted)
  · exact h.decSupplies hs inc
  all_goals exact hs
theorem abort (reason : AbortReason) (loss : Bool) : p (abort n reason loss s).1 := by
  have ended := h.updBus (h.abortCounts hs n ((s.busRec n).incoming.getD 0) reason) n BusRec.endChangeover
  unfold Machine.abort
  dsimp only
  split
  · exact h.clearParts (h.updBus ended n _) _
  · split
    · exact h.clearParts (h.loseSupply ended n) _
    · exact h.enterSteady (h.clearParts ended _) n _
theorem abortBack (reason : AbortReason) : p (abortBack n reason s).1 := h.abort hs n reason false
theorem abortLost (reason : AbortReason) : p (abortLost n reason s).1 := h.abort hs n reason true
theorem settle (tripped : Bool) : p (settle n tripped s).1 :=
  h.clearParts (h.updBus (h.markSupplyChange (h.enterSteady (h.decSupplies (h.updBus hs n _) _) n _) n _) n _) _
theorem deadCloses : p (deadCloses n s).1 :=
  h.updSet (h.enterSteady (h.updBus (h.markSupplyChange (h.updSet (h.updBus hs n _) _ _) n _) n _) n _) _ _
theorem openingReleases : p (openingReleases n s).1 :=
  h.enterDead (h.updSet (h.markSupplyChange (h.decSupplies (h.updBus hs n _) _) n _) _ _) n _
theorem askInputs : p (askInputs n s) := h.updBus (h.query _ _ _ _ hs) n _
theorem uncertainRecord : p (uncertainRecord n s) :=
  iteInduction (fun _ => h.updSet (h.updBus hs n _) _ _) (fun _ => h.updBus hs n _)
theorem enterUncertain : p (enterUncertain n s) :=
  h.switchingEnds (h.raise _ _ _ _ (h.askInputs (h.uncertainRecord hs n) n))
theorem resendAsks : p (resendAsks s) :=
  forEach_induct p _ _ (fun b _ _ ht => iteInduction (fun _ => h.askInputs ht b) (fun _ => ht)) s hs
theorem resolveBack (inc x : Nat) : p (resolveBack n inc x s).1 :=
  h.enterSteady (h.clearParts (h.updBus (h.decSupplies hs inc) n _) _) n x
theorem resolveTo (inc : Nat) (before : Option Nat) : p (resolveTo n inc before s).1 :=
  h.enterSteady (h.clearParts (h.updBus (h.markSupplyChange
    (forEach_induct p _ _ (fun x _ _ ht => h.decSupplies ht x) _ (h.updBus hs n _)) n _) n _) _) n inc
theorem resolveLost (inc : Nat) (before : Option Nat) : p (resolveLost n inc before s).1 :=
  h.clearParts (h.updBus (h.loseSupply (h.decSupplies hs inc) n) n _) _
theorem resolve (closed : List Bool) : p (resolve n closed s).1 := by
  unfold Machine.resolve
  dsimp only
  split
  · exact h.raise _ _ _ _ hs
  · split
    · split
      · exact h.resolveBack hs n _ _
      · exact h.orderPanel (h.updBus hs n _) n _ _
      · exact h.resolveTo hs n _ _
      · exact h.resolveLost hs n _ _
    · split
      · exact h.resolveTo hs n _ _
      · exact h.resolveLost hs n _ _
theorem convert : p (convert n s).1 := by
  have lost := h.loseSupply hs n
  unfold Machine.convert
  dsimp only
  split
  · exact h.enterDead (h.updSet (h.updBus lost n _) _ _) n _
  · exact h.updSet (h.updBus lost n _) _ _

/-! ### Set reports and panel replies -/

theorem supplierLeaves : p (supplierLeaves n s).1 := by
  unfold Machine.supplierLeaves
  split
  · exact h.loseSupply hs n
  · exact h.convert hs n
  · exact h.convert hs n
  all_goals exact hs
theorem backOut (inc : Nat) : p (backOut n inc s) := h.orderPanel (h.updBus hs n _) n _ inc
theorem incomingChanges (inc : Nat) : p (incomingChanges n inc s).1 := by
  unfold Machine.incomingChanges
  dsimp only
  split
  · split
    · exact h.evaluatePending (h.updBus hs n _) n
    · exact hs
    all_goals exact h.abortBack hs n _
  · split
    · exact hs
    · exact h.abortBack hs n _
  · split
    · exact hs
    · exact h.abortBack hs n _
  · split
    · exact h.backOut hs n inc
    · exact hs
  · split
    · exact hs
    · exact h.abortBack (h.openUnawaited hs n inc) n _
  all_goals exact hs
theorem busSeesChange (set : Nat) (was : OpState) : p (busSeesChange set was n s).1 := by
  unfold Machine.busSeesChange
  dsimp only
  split
  · split
    · exact h.supplierLeaves hs n
    · exact hs
  · split
    · exact h.incomingChanges hs n set
    · exact hs
theorem seeBuses (set : Nat) (was : OpState) (bs : List Nat) (w : Follow) : p (seeBuses set was bs w s) := by
  induction bs generalizing s w with
  | nil => exact h.finish hs w
  | cons b bs ih =>
    have seen := h.busSeesChange hs b set was
    exact iteInduction (fun _ => ih (h.finish seen _) _)
      (fun _ => iteInduction (fun _ => ih (h.tails seen _) _) (fun _ => ih (h.finish seen _) _))
theorem trip : p (trip n s) := h.orderPanel (h.updBus hs n _) n _ _
theorem judgeOverlap (i o : Bool) : p (judgeOverlap n i o s).1 := by
  unfold Machine.judgeOverlap
  split
  · split
    · exact h.abortBack hs n _
    · exact h.abortLost hs n _
    · exact h.enterUncertain hs n
  · split
    · exact h.settle hs n _
    · exact h.enterUncertain hs n
    · exact h.abortBack hs n _
    · exact h.abortLost hs n _
  all_goals
    split
    · exact h.settle hs n _
    · exact h.trip hs n
    · exact h.abortBack hs n _
    · exact h.abortLost hs n _
theorem judgeOpening (o : Bool) : p (judgeOpening n o s).1 := by
  unfold Machine.judgeOpening
  dsimp only
  split
  · exact h.openingReleases hs n
  · exact h.abortLost hs n _
  · exact h.abortBack hs n _
  · exact h.abortBack hs n _
theorem judgeInputs (closed : List Bool) : p (judgeInputs n closed s).1 := by
  unfold Machine.judgeInputs
  dsimp only
  split
  · split
    · exact h.orderPanel (h.updBus hs n _) n _ _
    · exact h.abortBack hs n _
  · exact h.judgeOverlap hs n _ _
  · exact h.judgeOpening hs n _
  · split
    · exact h.deadCloses hs n
    · exact h.abortBack hs n _
  all_goals exact hs
theorem panelUnanswered : p (panelUnanswered n s) := by
  unfold Machine.panelUnanswered
  split
  case h_1 => exact h.trip hs n
  case h_2 => exact h.enterUncertain hs n
  case h_3 => exact h.enterUncertain hs n
  case h_4 => exact h.enterUncertain hs n
  case h_5 => exact h.enterUncertain hs n
  all_goals exact hs
theorem phaseExpires : p (phaseExpires n s) := by
  unfold Machine.phaseExpires
  split
  · exact h.finish (h.abortBack hs n _) _
  · exact h.finish (h.abortBack (h.openUnawaited hs n _) n _) _
  · exact h.panelUnanswered hs n
  · exact h.panelUnanswered hs n
  · exact h.panelUnanswered hs n
  all_goals exact hs
theorem takeInputs (closes : Option Exchange) (closed : List Bool) : p (takeInputs n closes closed s) := by
  unfold Machine.takeInputs
  split
  · exact hs
  · exact iteInduction (fun _ => h.finish (h.resolve hs _ closed) _)
      (fun _ => iteInduction (fun _ => h.finish (h.judgeInputs hs _ closed) _) (fun _ => hs))
theorem closeIn (inc : Nat) : p (closeIn n inc s) :=
  h.updSet (h.orderPanel (h.enterPhase hs n _ _) n _ inc) inc _
theorem takeSyncOk : p (takeSyncOk n s) := by
  unfold Machine.takeSyncOk
  split
  · exact hs
  · split
    · exact hs
    · exact iteInduction (fun _ => iteInduction (fun _ => h.finish (h.abortBack hs _ _) _)
        (fun _ => h.closeIn hs _ _)) (fun _ => hs)
theorem syncFails (frame : Nat) (reason : AbortReason) : p (syncFails n frame reason s) :=
  iteInduction (fun _ => h.finish (h.abortBack hs n reason) _) (fun _ => hs)
theorem pendingStartFails (frame : Nat) (reason : AbortReason) : p (pendingStartFails n frame reason s) := by
  unfold Machine.pendingStartFails
  split
  · exact hs
  · exact iteInduction (fun _ => h.finish (h.abortBack hs _ reason) _) (fun _ => hs)
theorem acceptChangeover (set : Nat) (kind : ChKind) (by_ : Party) : p (acceptChangeover n set kind by_ s) :=
  h.startIncoming (forEach_induct p _ _ (fun o _ _ ht => h.takePart ht n o _) _
    (h.takePart (h.updBus hs n _) n set _)) n set
theorem warmUpEnds : p (warmUpEnds n s) :=
  iteInduction (fun _ => h.finish (h.abortBack hs n _) _) (fun _ => hs)
theorem fuelWaitEnds : p (fuelWaitEnds n s) :=
  iteInduction (fun _ => h.finish (h.abortBack hs n _) _) (fun _ => hs)
theorem phaseEnds : p (phaseEnds n s) := iteInduction (fun _ => h.phaseExpires hs n) (fun _ => hs)

/-! ### Op states, and the outcomes of orders to sets -/

theorem changeOp (op : OpState) : p (changeOp n op s) := by
  refine iteInduction (fun _ => hs) (fun _ => ?_)
  have told := h.seeBuses (h.recomputeSupply (h.updSet hs n (SetRec.enter op)) (s.setRec n).tank) n (s.setRec n).op
  exact iteInduction (fun _ => h.raise _ _ _ _ (told _ _)) (fun _ => told _ _)
theorem takeState (tag : Nat) (op : OpState) : p (takeState n tag op s) := by
  unfold Machine.takeState
  split
  · exact hs
  · exact h.changeOp (h.updSet hs _ _) _ _
theorem missedPoll : p (missedPoll n s) :=
  iteInduction (fun _ => h.updSet hs n _)
    (fun _ => iteInduction (fun _ => h.raise _ _ _ _ (h.updSet hs n _)) (fun _ => hs))
theorem raiseIfUnanswered (o : OrderOutcome) : p (raiseIfUnanswered n o s) :=
  iteInduction (fun _ => h.raise _ _ _ _ hs) (fun _ => hs)
theorem startAccepted : p (startAccepted n s) := by
  unfold Machine.startAccepted
  split
  case h_4 => exact hs
  case h_5 => exact hs
  all_goals exact h.changeOp hs n _
theorem restoreCooling (sent : Bool) : p (restoreCooling n sent s) :=
  iteInduction (fun _ => h.updSet hs n _) (fun _ => hs)
theorem startOutcome (serial frame : Nat) (sent : Bool) (o : OrderOutcome) :
    p (startOutcome n serial frame sent o s) := by
  refine iteInduction (fun _ => ?_) (fun _ => hs)
  have cleared : p (clearStart n frame s) := h.updSet hs n _
  cases o with
  | accepted =>
    have taken := h.startAccepted cleared n
    exact iteInduction (fun _ => iteInduction (fun _ => h.orderByMark taken n) (fun _ => taken)) (fun _ => taken)
  | refused =>
    have taken := h.pendingStartFails (h.restoreCooling cleared n sent) n frame .incomingFault
    exact iteInduction (fun _ => iteInduction (fun _ => h.orderByMark taken n) (fun _ => taken)) (fun _ => taken)
  | noAnswer =>
    have taken := h.pendingStartFails (h.restoreCooling (h.raise .setNoAnswer .sets n none cleared) n sent) n frame
      .noAnswer
    exact iteInduction (fun _ => iteInduction (fun _ => h.orderByMark taken n) (fun _ => taken)) (fun _ => taken)
theorem coolAfterAll (o : OrderOutcome) : p (coolAfterAll n o s) :=
  iteInduction (fun _ => h.changeOp (h.raiseIfUnanswered (h.updSet hs n _) n o) n _)
    (fun _ => h.raiseIfUnanswered hs n o)
theorem startCancelOutcome (serial : Nat) (o : OrderOutcome) : p (startCancelOutcome n serial o s) := by
  refine iteInduction (fun _ => ?_) (fun _ => hs)
  cases o with
  | accepted => exact h.startAccepted hs n
  | refused => exact h.coolAfterAll hs n _
  | noAnswer => exact h.coolAfterAll hs n _
theorem coolOutcome (serial : Nat) (o : OrderOutcome) : p (coolOutcome n serial o s) := by
  refine iteInduction (fun _ => ?_) (fun _ => hs)
  cases o with
  | accepted => exact iteInduction (fun _ => iteInduction (fun _ => h.changeOp (h.updSet hs n _) n _)
      (fun _ => h.order _ _ _ _ hs)) (fun _ => hs)
  | refused => exact h.raiseIfUnanswered hs n _
  | noAnswer => exact h.raiseIfUnanswered hs n _
theorem stopOutcome (serial : Nat) (o : OrderOutcome) : p (stopOutcome n serial o s) := by
  refine iteInduction (fun _ => ?_) (fun _ => hs)
  cases o with
  | accepted => exact iteInduction (fun _ => h.changeOp hs n _) (fun _ => hs)
  | refused => exact h.raiseIfUnanswered hs n _
  | noAnswer => exact h.raiseIfUnanswered hs n _
theorem coolDownEnds : p (coolDownEnds n s) :=
  iteInduction (fun _ => h.sendStop (h.updSet hs n _) n) (fun _ => hs)

/-! ### The performed close -/

theorem apportionAll : p (apportionAll s) :=
  forEach_induct p _ _ (fun _ _ _ ht => forEach_induct p _ _ (fun q _ _ hu => h.updAccount hu q.1 _) _ ht) s hs
theorem writeStatements : p (writeStatements s) := by
  refine h.accounts _ (Eq.trans ?_) hs
  simp only [Tbl.wf, Tbl.nums, List.map_map]
  rfl
theorem zeroPeriod : p (zeroPeriod s) :=
  h.onSite (h.accounts _ (.updAll _ _ _) (h.sets _ (.updAll _ _ _) hs)) _
theorem freeSet : p (freeSet n s) := by
  have freed := h.sets _ (.del _ _ n) hs
  have left : p (leaveTank (s.setRec n).tank (s.onSets (fun t => t.del n))) := by
    unfold leaveTank
    split
    · exact h.updTank freed _ _
    · exact freed
  exact h.feeders _ (.updAll _ _ _) (h.buses _ (.updAll _ _ _) (h.recomputeSupply left _))
theorem performClose : p (performClose s) := by
  refine h.raise _ _ _ _ (h.onSite (h.accounts releaseAccounts (fun hw => ?_) ?_) _)
  · exact Tbl.FormKept.updAll _ _ _ (Tbl.wf_filter _ hw)
  · exact forEach_induct p _ _ (fun n _ _ ht => h.freeSet ht n) _
      (h.zeroPeriod (h.writeStatements (h.apportionAll hs)))
theorem closingPassEnd : p (closingPassEnd s) :=
  iteInduction (fun _ => iteInduction (fun _ => h.raise _ _ _ _ (h.onSite hs _)) (fun _ => h.performClose hs))
    (fun _ => hs)
theorem releaseHold : p (releaseHold s) := iteInduction (fun _ => h.performClose hs) (fun _ => hs)

/-! ### Reads, polls and passes -/

theorem creditPart (account : Nat) (part : Option Nat × Nat) : p (creditPart account part s) := by
  obtain ⟨supplier, wh⟩ := part
  refine iteInduction (fun _ => hs) (fun _ => ?_)
  have billed := h.updAccount hs account (fun a => { a with periodWh := a.periodWh + wh, drawn := true })
  cases supplier with
  | none => exact h.onSite billed _
  | some i =>
    have credited := h.updSet billed i (SetRec.credit account wh)
    exact iteInduction (fun _ => h.raise _ _ _ _ credited) (fun _ => credited)
theorem applyRead (reading : Nat) : p (applyRead n reading s) := by
  refine iteInduction (fun _ => h.updFeeder hs n _) (fun _ => h.updFeeder ?_ n _)
  refine forEach_induct p _ _ (fun q _ _ ht => h.creditPart ht _ q) _ ?_
  exact iteInduction (fun _ => h.raise _ _ _ _ (h.updFeeder hs n _)) (fun _ => hs)
theorem pollFeeder : p (pollFeeder n s) := by
  unfold Machine.pollFeeder
  split
  · exact h.onPass (h.updFeeder hs n _) _
  · have hq := h.query (s.feederRec n).meter Kind.readMeter (.readMeter n) false hs
    split
    next t id e => rw [e] at hq; exact h.onPass (h.updFeeder hq n _) _
    next t e => rw [e] at hq; exact h.updFeeder hq n _
theorem pollSet : p (pollSet n s) := by
  refine iteInduction (fun _ => ?_) (fun _ => hs)
  have hq := h.query (s.setRec n).node Kind.askState (.askState n (s.setRec n).serial) false hs
  split
  next t id e => rw [e] at hq; exact h.onPass hq _
  next t e => rw [e] at hq; exact h.missedPoll hq n
theorem offerFrom (ps : List Poll) : p (offerFrom ps s) := by
  induction ps generalizing s with
  | nil => exact h.onPass hs _
  | cons q qs ih =>
    refine iteInduction (fun _ => ih ?_) (fun _ => h.onPass hs _)
    cases q with
    | feeder n => exact h.pollFeeder hs n
    | set n => exact h.pollSet hs n
theorem passEnd : p (passEnd s) := by
  have pended := h.resendAsks (h.evaluateAllPending (h.estimateAll hs))
  have worked : p (passEndWork s) := iteInduction (fun _ => h.closingPassEnd pended) (fun _ => pended)
  rw [passEnd_eq]
  exact h.onPass worked _
theorem advancePass : p (advancePass s) :=
  have offered := h.offerFrom hs s.pass.polls
  iteInduction (fun _ => h.passEnd offered) (fun _ => offered)
theorem pollTaken : p (pollTaken s) := iteInduction (fun _ => h.advancePass (h.onPass hs _)) (fun _ => hs)
theorem startPass (closing : Bool) : p (startPass closing s) := h.advancePass (h.onPass hs _)
theorem closeDue : p (closeDue s) := by
  have due := h.onSite hs (fun x => { x with closeState := .closingPass })
  unfold Machine.closeDue requestClosingPass
  split
  · exact h.startPass (h.onPass due _) true
  · exact h.onPass due _
theorem scanEnds : p (scanEnds s) := by
  refine iteInduction (fun _ => ?_) (fun _ => hs)
  split
  · exact h.startPass (h.onPass hs _) false
  · exact h.onPass (h.raise _ _ _ _ hs) _
theorem readTaken (f : FeederRead) (reading : Option Nat) : p (readTaken n f reading s) := by
  cases reading with
  | some v => exact iteInduction (fun _ => hs) (fun _ => h.applyRead hs n v)
  | none =>
    have unread := h.updFeeder hs n (fun r => { r with unread := true, boundary := r.boundary && !f.boundary })
    exact iteInduction (fun _ => h.askBoundary unread n) (fun _ => unread)
theorem readOutcome (frame : Nat) (reading : Option Nat) : p (readOutcome n frame reading s) := by
  unfold Machine.readOutcome
  split
  · exact hs
  · refine iteInduction (fun _ => ?_) (fun _ => hs)
    have taken := h.readTaken (h.updFeeder hs n (fun r => { r with inFlight := none })) n
    exact iteInduction (fun _ => h.pollTaken (taken _ _)) (fun _ => taken _ _)
theorem askStateUnanswered (serial : Nat) : p (askStateUnanswered n serial s) :=
  h.pollTaken (iteInduction (fun _ => h.missedPoll hs n) (fun _ => hs))
theorem dropFeederPoll (read : Option FeederRead) : p (dropFeederPoll n read s) :=
  iteInduction (fun _ => h.pollTaken (h.onPass hs _)) (fun _ => h.onPass hs _)
theorem countMinutes : p (countMinutes n s) := h.sets _ (.updAll _ _ _) hs
theorem addPeriodMinutes : p (addPeriodMinutes n s) := by
  have matched := h.onSite hs (fun x => { x with minuteCount := 0 })
  exact iteInduction (fun _ => iteInduction (fun _ => h.closeDue matched) (fun _ => matched)) (fun _ => h.onSite hs _)
theorem minuteTick : p (minuteTick s) := by
  refine iteInduction (fun _ => h.addPeriodMinutes (h.countMinutes ?_ 1) 1) (fun _ => hs)
  exact h.beside (s := s) ⟨_, _, _, _, _, _, _, _, _, _, _, rfl⟩ hs

end KeptByWrites

end Sys2Proof.Machine

/-! ## SUPPORT. What every write keeps, over the site line and the resets -/

namespace Sys2Proof.Machine

namespace KeptByWrites

variable {p : State → Prop} (h : KeptByWrites p) {s : State} (hs : p s) (n : Nat)
include h hs

/-! ### Outcomes of frames, and the sending side of the line -/

theorem noAnswerFor (frame : Nat) (q : Purpose) : p (noAnswerFor frame q s) := by
  cases q with
  | nothing => exact hs
  | start set serial cooling => exact h.startOutcome hs set serial frame cooling .noAnswer
  | startCancel set serial => exact h.startCancelOutcome hs set serial .noAnswer
  | cool set serial => exact h.coolOutcome hs set serial .noAnswer
  | stop set serial => exact h.stopOutcome hs set serial .noAnswer
  | sync bus set serial => exact h.syncFails hs ..
  | panel bus => exact iteInduction (fun _ => h.panelUnanswered hs bus) (fun _ => hs)
  | askInputs bus => exact h.updBus hs bus _
  | readMeter feeder => exact h.readOutcome hs ..
  | askState set serial => exact h.askStateUnanswered hs ..
  | askLevel tank serial => exact hs
  | fill ctx serial nom => exact h.fillOutcome hs ctx serial nom none
  | valveShut ctx serial => exact h.valveShutOutcome hs ctx serial none
  | valveOpen ctx serial nom => exact h.valveOpenOutcome hs ..
theorem resultFor (frame : Nat) (q : Purpose) (accepted : Bool) (meter : Option Nat) :
    p (resultFor frame q accepted meter s) := by
  cases q with
  | start set serial cooling => exact h.startOutcome hs ..
  | startCancel set serial => exact h.startCancelOutcome hs ..
  | cool set serial => exact h.coolOutcome hs ..
  | stop set serial => exact h.stopOutcome hs ..
  | sync bus set serial => exact iteInduction (fun _ => hs) (fun _ => h.syncFails hs ..)
  | fill ctx serial nom => exact h.fillOutcome hs ..
  | valveOpen ctx serial nom => exact h.valveOpenOutcome hs ..
  | nothing | panel | askInputs | readMeter | askState | askLevel | valveShut => exact hs
theorem closeExchange : p (s.onLine (Line.closeExchange n)) := h.aroundQueue ⟨_, _, _, _, _, _, rfl⟩ hs
theorem replyDeadlineEnds : p (replyDeadlineEnds n s) := by
  unfold Machine.replyDeadlineEnds
  split
  · exact hs
  · exact h.noAnswerFor (h.closeExchange hs n) _ _

section
variable {f : OutFrame} (hf : f ∈ s.line.queue)
include hf

theorem frameUnanswered : p (frameUnanswered f s) := by
  have left := h.leave hf hs
  unfold Machine.frameUnanswered
  dsimp only
  split
  · exact h.noAnswerFor left _ _
  · exact h.noAnswerFor left _ _
  all_goals exact left
theorem frameAcknowledged : p (frameAcknowledged f s) := by
  refine h.aroundQueue (s := s.onLine (Line.leave f)) ?_ (h.leave hf hs)
  unfold Machine.frameAcknowledged Line.openExchange
  cases f.cls <;> exact ⟨_, _, _, _, _, _, rfl⟩
theorem takeAnswer (answer : AckAnswer) : p (takeAnswer f answer s) := by
  cases answer with
  | ack => exact h.frameAcknowledged hs hf
  | hold => exact h.aroundQueue (s := s) ⟨_, _, _, _, _, _, rfl⟩ hs
  | refuse => exact h.frameUnanswered hs hf
  | nothing => exact h.frameUnanswered hs hf
theorem driveFrame (answer : AckAnswer) : p (driveFrame f answer s) := by
  have sent : p (s.onLine (fun l => { l with sent := f.bytes })) := h.aroundQueue ⟨_, _, _, _, _, _, rfl⟩ hs
  exact iteInduction (fun _ => h.leave hf sent) (fun _ => h.takeAnswer sent hf answer)

end

theorem sendFrame (contenders : List (Nat × Nat)) (answer : AckAnswer) : p (sendFrame contenders answer s) := by
  refine iteInduction (fun _ => ?_) (fun _ => hs)
  split
  · exact hs
  next f hf =>
    exact iteInduction (fun _ => h.driveFrame hs (List.mem_of_find?_eq_some hf) answer) (fun _ => hs)
theorem endSendHold (acknowledged : Bool) : p (endSendHold acknowledged s) := by
  have ended : p (s.onLine (fun l => { l with txHold := none })) := h.aroundQueue ⟨_, _, _, _, _, _, rfl⟩ hs
  unfold Machine.endSendHold
  split
  · exact hs
  · dsimp only
    split
    · exact ended
    next f hf =>
      exact iteInduction (fun _ => h.frameAcknowledged ended (List.mem_of_find?_eq_some hf))
        (fun _ => h.frameUnanswered ended (List.mem_of_find?_eq_some hf))

/-! ### The receiving side of the line -/

theorem receive (f : InFrame) : p (s.onLine (Line.receive f)) := by
  refine h.aroundQueue ?_ hs
  simp only [State.onLine, Line.receive, Line.admitTo]
  split
  · split <;> exact ⟨_, _, _, _, _, _, rfl⟩
  · exact ⟨_, _, _, _, _, _, rfl⟩
theorem receiveFrame (bytes : List Byte) : p (receiveFrame bytes s) := by
  unfold Machine.receiveFrame State.onLine
  dsimp only
  split
  · exact hs
  · split
    · split
      · exact h.receive hs _
      · exact h.aroundQueue ⟨_, _, _, _, _, _, rfl⟩ hs
    · exact h.aroundQueue ⟨_, _, _, _, _, _, rfl⟩ hs
theorem endReceiveHold : p (endReceiveHold s) := by
  unfold Machine.endReceiveHold State.onLine
  dsimp only
  split
  · exact h.aroundQueue ⟨_, _, _, _, _, _, rfl⟩ hs
  · exact hs
theorem freeAt : p (s.onLine (Line.freeAt n)) := by
  refine h.aroundQueue ?_ hs
  simp only [State.onLine, Line.freeAt, Line.admitTo]
  split
  · exact ⟨_, _, _, _, _, _, rfl⟩
  · split
    · split <;> exact ⟨_, _, _, _, _, _, rfl⟩
    · exact ⟨_, _, _, _, _, _, rfl⟩

/-! ### Dispatch of the slots -/

theorem closedUnanswered (closes : Option Exchange) : p (closedUnanswered closes s) := by
  cases closes with
  | none => exact hs
  | some e => exact h.noAnswerFor hs _ _
theorem dispatchSlot {mine : Message → Bool} {act : Slot → Message → State → State}
    (hact : ∀ t m u, p u → p (act t m u)) : p (dispatchSlot n mine act s) := by
  unfold Machine.dispatchSlot
  split
  · exact hs
  · have freed := h.freeAt hs n
    exact iteInduction (fun _ => iteInduction (fun _ => hact _ _ _ freed)
      (fun _ => h.raise _ _ _ _ (h.closedUnanswered freed _))) (fun _ => hs)

section
variable (t : Slot) (m : Message)

theorem wrongKind : p (wrongKind t s) := iteInduction (fun _ => h.closedUnanswered hs _) (fun _ => hs)
theorem dispatchState : p (dispatchState t m s) := by
  unfold Machine.dispatchState
  split
  next tag op =>
    have taken := h.takeState (h.wrongKind hs t) t.frame.source tag op
    exact iteInduction (fun _ => h.pollTaken taken) (fun _ => taken)
  · exact hs
theorem dispatchSyncOk : p (dispatchSyncOk t m s) := by
  unfold Machine.dispatchSyncOk
  split
  · exact h.takeSyncOk (h.wrongKind hs t) _
  · exact hs
theorem dispatchInputs : p (dispatchInputs t m s) := by
  unfold Machine.dispatchInputs noteAsk
  split
  · refine h.takeInputs ?_ _ _ _
    split
    · exact h.updBus (h.wrongKind hs t) _ _
    · exact h.wrongKind hs t
  · exact hs
theorem dispatchLevel : p (dispatchLevel t m s) := by
  unfold Machine.dispatchLevel
  split
  · dsimp only
    split
    · exact h.gaugeReading (h.wrongKind hs t) _ _
    · exact h.wrongKind hs t
  · exact hs
theorem dispatchReading : p (dispatchReading t m s) := by
  unfold Machine.dispatchReading
  split
  · split
    · exact h.readOutcome hs _ _ _
    · exact h.wrongKind hs t
  · exact hs
theorem dispatchBowserMeter : p (dispatchBowserMeter t m s) := by
  unfold Machine.dispatchBowserMeter
  split
  · exact h.bowserReport hs _ _
  · exact hs
theorem dispatchHoseDone : p (dispatchHoseDone t m s) := by
  unfold Machine.dispatchHoseDone
  split
  · exact h.hoseReport hs _ _
  · exact hs
theorem dispatchResult : p (dispatchResult t m s) := by
  unfold Machine.dispatchResult
  split
  · split
    · exact h.resultFor hs _ _ _ _
    · exact h.wrongKind hs t
  · exact hs
theorem dispatchValveShut : p (dispatchValveShut t m s) := by
  unfold Machine.dispatchValveShut
  split
  · split
    · exact h.valveShutOutcome hs _ _ _
    · exact h.wrongKind hs t
  · exact hs

end

/-! ### The blocks at a line reset -/

theorem resetBus : p (resetBus n s) := by
  have aborts : p (resetAbort n s) := by
    unfold resetAbort
    exact h.onResetWork (forEach_induct p _ _ (fun b _ _ ht => h.loseSupply ht b) _ (h.abortBack hs n .lineReset)) _
  have unsettles : p (resetUncertain n s) := h.onResetWork (h.uncertainRecord hs n) _
  unfold Machine.resetBus
  split
  case h_1 => exact aborts
  case h_2 => exact aborts
  case h_3 => exact unsettles
  case h_4 => exact unsettles
  case h_5 => exact unsettles
  case h_6 => exact unsettles
  all_goals exact hs
theorem resetCredit : p (resetCredit n s) :=
  iteInduction (fun _ => h.onResetWork (h.updTank (h.updCtx hs n _) _ _) _) (fun _ => hs)
theorem resetCtx : p (resetCtx n s) := by
  have ends : p (resetDelivery n s) := h.onResetWork (h.updCtx (h.resetCredit hs n) n _) _
  unfold Machine.resetCtx
  split
  case h_1 => exact h.onResetWork (h.updCtx hs n _) _
  case h_6 => exact hs
  case h_7 => exact hs
  all_goals exact ends
theorem lineReset : p (lineReset s) := by
  have transfer : p (resetTransfer s) :=
    h.buses _ (.updAll _ _ _) (forEach_induct p _ _ (fun b _ _ ht => h.resetBus ht b) s hs)
  have ctxs := h.resetCtx (h.resetCtx transfer 1) 2
  have records := h.onSite (h.onPass (h.feeders _ (.updAll _ _ FeederRec.lineReset) (h.tanks _
    (.updAll _ _ TankRec.lineReset) (h.sets _ (.updAll _ _ SetRec.lineReset) ctxs))) Pass.lineReset) Site.lineReset
  exact h.beside ⟨_, _, _, _, _, _, _, _, _, _, _, rfl⟩ (h.emptied records)

/-! ### The blocks at the release -/

theorem releaseDelivery (w : ResetWork) : p (releaseDelivery w s) := by
  refine forEach_induct p _ _ (fun n _ t ht => ?_) _ (h.order _ _ _ _ hs)
  have voided : p (match w.voided.find? (fun v => v.1 = n) with
      | some v => Machine.raise .deliveryVoid .deliveries n (some v.2) t
      | none => t) := by
    split
    · exact h.raise _ _ _ _ ht
    · exact ht
  exact iteInduction (fun _ => h.raise _ _ _ _ voided) (fun _ => voided)
theorem releasePart : p (releasePart n s) :=
  iteInduction (fun _ => h.updSet hs n _) (fun _ => iteInduction (fun _ => hs) (fun _ => h.orderByMark hs n))
theorem releaseUncertain (w : ResetWork) : p (releaseUncertain w s) := by
  refine forEach_induct p _ _ (fun b _ t ht => iteInduction (fun _ => ?_) (fun _ => ht)) s hs
  have asked := h.askInputs ht b
  exact iteInduction (fun _ => h.raise _ _ _ _ asked) (fun _ => asked)
theorem releaseTransfer (w : ResetWork) : p (releaseTransfer w s) := by
  have told := forEach_induct p (fun b => Machine.raise .changeoverAborted .buses b (some AbortReason.lineReset.code))
    w.aborted (fun b _ _ ht => h.raise _ _ _ _ ht) s hs
  exact forEach_induct p _ _ (fun n _ _ ht => h.releasePart ht n) _ (h.arbitrate (h.releaseUncertain told w) _)
theorem releaseFuel (w : ResetWork) : p (releaseFuel w s) :=
  forEach_induct p _ _ (fun n _ _ ht => h.recomputeTank ht n) _
    (forEach_induct p _ _ (fun n _ _ ht => h.askLevel ht n) s hs)
theorem releaseCoolDown : p (releaseCoolDown n s) := by
  have dropped : p (if reached (s.setRec n).coolDeadline s.clock then
      s.updSet n (fun t => { t with coolDeadline := none }) else s) :=
    iteInduction (fun _ => h.updSet hs n _) (fun _ => hs)
  exact iteInduction (fun _ => h.sendStop dropped n) (fun _ => dropped)
theorem releaseRoster (minutes : Nat) : p (releaseRoster minutes s) :=
  forEach_induct p _ _ (fun n _ _ ht => h.releaseCoolDown ht n) _ (h.countMinutes hs minutes)
theorem releaseScanner : p (releaseScanner s) :=
  forEach_induct p _ _ (fun n _ _ ht => h.offerBoundary ht n) _ (h.onPass hs _)
theorem releaseBilling (minutes : Nat) : p (releaseBilling minutes s) := by
  have counted := h.addPeriodMinutes hs minutes
  unfold Machine.releaseBilling
  dsimp only
  split
  · exact h.closeDue counted
  · exact h.raise _ _ _ _ counted
  all_goals exact counted
theorem lineResetRelease : p (lineResetRelease s) := by
  have freed : p ((s.setResetHeld false).onResetWork (fun _ => {})) :=
    h.beside (s := s) ⟨_, _, _, _, _, _, _, _, _, _, _, rfl⟩ hs
  have restarted := h.beside (t := (releasePort ((s.setResetHeld false).onResetWork (fun _ => {}))).setMinutesTaken
    (s.clock / 60)) ⟨_, _, _, _, _, _, _, _, _, _, _, rfl⟩ (h.raise .restarted .site 1 (some 1) freed)
  exact h.releaseBilling (h.releaseScanner (h.releaseRoster (h.releaseFuel (h.releaseTransfer
    (h.releaseDelivery restarted _) _) _) _)) _

end KeptByWrites

end Sys2Proof.Machine

/-! ## SUPPORT. What every request comes to: a refusal that changes nothing, or writes -/

namespace Sys2Proof.Machine

/-- The checks and effects of a request kind, past check 4. -/
def ReqKind.own : ReqKind → Asked → State → Answered
  | .lookup => fun a => a.onTable lookupTable
  | .find => fun a => a.onTable findTable
  | .enrol => fun a => a.onTable enrolTable
  | .amend => fun a => a.onTable amendTable
  | .retire => fun a => a.onTable retireTable
  | .changeover => fun a => onRecord a .buses .request (changeoverOwn a)
  | .cancelChangeover => fun a => operate a .buses (fun n u =>
      acceptOr .buses n (Machine.cancelChangeover n a.ring a.party u))
  | .confirmSupply => fun a => onRecord a .buses .request (confirmOwn a)
  | .dipEntry => fun a => onRecord a .tanks .request (dipOwn a)
  | .reseatFeeder => fun a => onRecord a .feeders .request (reseatOwn a)
  | .startPass => fun a => operate a .site startPassOwn
  | .openDelivery => fun a => onRecord a .tanks .request (openDeliveryOwn a)
  | .nominate => nominateTable
  | .suspendDelivery => fun a => operate a .deliveries (fun n u => acceptOr .deliveries n (Machine.suspendDelivery n u))
  | .resumeDelivery => fun a => operate a .deliveries (fun n u => acceptOr .deliveries n (Machine.resumeDelivery n u))
  | .skipNomination => fun a => operate a .deliveries (fun n u => acceptOr .deliveries n (Machine.skipNomination n u))
  | .abandonDelivery => fun a => operate a .deliveries (fun n u => acceptOr .deliveries n (Machine.abandonDelivery n u))
  | .collectDocket => fun a => operate a .deliveries collectDocketOwn
  | .closePeriod => fun a => operate a .site closePeriodOwn
  | .collectStatement => fun a => operate a .accounts collectStatementOwn
  | .takeNotice => Machine.takeNotice

/-- Every request takes the one path of the Rights Checker (R174). -/
theorem exec_command (k : ReqKind) (src : Source) (s : State) :
    exec (k.command src) s = .next (runRequest k k.own src s) := by cases k <;> rfl

/-- An answer to a request checked in `s`: a refusal changes nothing, and `p` holds of the answer's state. -/
structure Answered.Judged (p : State → Prop) (s : State) (x : Answered) : Prop where
  untouched : x.response.answer.refusal = true → x.state = s ∧ x.release = false
  kept : p x.state

/-- The check at position `k` passes when none fails. -/
theorem passes_of_firstFailing {cs : List (Bool × Answer)} {k : Nat} {b : Bool} {x : Answer}
    (h : firstFailing cs = none) (hk : cs[k]? = some (b, x)) : b = true :=
  firstFailing_none.1 h _ (List.mem_of_getElem? hk)

section
variable {p : State → Prop} {s t : State} (hs : p s)

theorem judged_accept {x : Answer} (hx : x.refusal = false) (tb : TableId) (n : Nat) (ht : p t) :
    (accept x tb n t).Judged p s := ⟨fun hr => absurd (hx.symm.trans hr) nofun, ht⟩

include hs

theorem judged_refuse (x : Answer) : (refuse x s).Judged p s := ⟨fun _ => ⟨rfl, rfl⟩, hs⟩

/-- An operation that answers with a refusal has changed nothing. -/
theorem judged_acceptOr {r : State × Answer} (hr : r.2 = .done ∧ p r.1 ∨ r.1 = s) (tb : TableId) (n : Nat) :
    (acceptOr tb n r).Judged p s := by
  unfold acceptOr
  rcases hr with ⟨hdone, hp⟩ | hsame
  · rw [if_pos hdone]
    exact judged_accept rfl tb n hp
  · rw [hsame]
    exact iteInduction (fun _ => judged_accept rfl tb n hs) (fun _ => judged_refuse hs _)

theorem judged_onRecord {own : Nat → State → Answered} {a : Asked} (tb : TableId) (need : Need)
    (h : ∀ n, (own n s).Judged p s) : (onRecord a tb need own s).Judged p s :=
  iteInduction (fun _ => judged_refuse hs _) (fun _ => iteInduction (fun _ => judged_refuse hs _)
    (fun _ => iteInduction (fun _ => judged_refuse hs _) (fun _ => h _)))
theorem judged_operate {own : Nat → State → Answered} {a : Asked} (tb : TableId)
    (h : ∀ n, (own n s).Judged p s) : (operate a tb own s).Judged p s :=
  judged_onRecord hs tb _ (fun n => iteInduction (fun _ => h n) (fun _ => judged_refuse hs _))
theorem judged_onTable {own : Asked → TableId → State → Answered} {a : Asked}
    (h : ∀ tb, (own a tb s).Judged p s) : (a.onTable own s).Judged p s := by
  unfold Asked.onTable
  split
  · exact h _
  · exact judged_refuse hs _
theorem judged_checkRequest {k : ReqKind} {own : Asked → State → Answered} (party : Party) (q : Request)
    (h : ∀ a, (own a s).Judged p s) : (checkRequest k own party q s).Judged p s := by
  unfold checkRequest
  split
  · exact judged_refuse hs _
  · exact iteInduction (fun _ => judged_refuse hs _) (fun _ => iteInduction (fun _ => judged_refuse hs _)
      (fun _ => h _))

/-! ## LOOKUP and FIND -/

theorem judged_showPairs (ids : List Nat) (named : Fields) (n : Nat) (pairs : List (Nat × Nat)) :
    (showPairs ids named n pairs s).Judged p s :=
  iteInduction (fun _ => ⟨nofun, hs⟩) (fun _ => judged_refuse hs _)
theorem judged_showRecord (a : Asked) (tb : TableId) (n : Nat) : (showRecord a tb n s).Judged p s :=
  iteInduction (fun _ => judged_showPairs hs ..) (fun _ => judged_refuse hs _)
theorem judged_lookup (a : Asked) (tb : TableId) : (lookupTable a tb s).Judged p s :=
  iteInduction (fun _ => iteInduction (fun _ => judged_showPairs hs ..) (fun _ => judged_refuse hs _))
    (fun _ => iteInduction (fun _ => judged_showRecord hs ..) (fun _ => judged_refuse hs _))
theorem judged_find (a : Asked) (tb : TableId) : (findTable a tb s).Judged p s := by
  unfold findTable
  split
  · exact judged_showRecord hs ..
  · exact judged_refuse hs _

/-! ## ENROL, AMEND and RETIRE by table -/

theorem judged_enrolWith {tb : TableId} {carried : List Nat} {fs : Fields} {checks : List (Bool × Answer)}
    {adjusted : Bool} {n : Nat} {write : State → State} (hw : firstFailing checks = none → p (write s)) :
    (enrolWith tb carried fs checks adjusted n write s).Judged p s := by
  unfold enrolWith
  split
  · exact judged_refuse hs _
  · split
    · exact judged_refuse hs _
    next hpass => cases adjusted <;> exact judged_accept rfl _ _ (hw hpass)
theorem judged_amendUnless {refusal : Option Answer} {tb : TableId} {n : Nat} {adjusted : Bool}
    {write : State → State} (hw : p (write s)) : (amendUnless refusal tb n adjusted write s).Judged p s := by
  rcases amendUnless_cases refusal tb n adjusted write s with ⟨x, -, e⟩ | ⟨-, e⟩ <;> rw [e]
  · exact judged_refuse hs x
  · cases adjusted <;> exact judged_accept rfl _ _ hw
theorem judged_retireWith {tb : TableId} {checks : List (Bool × Answer)} {n : Nat} {write : State → State}
    (hw : p (write s)) : (retireWith tb checks n write s).Judged p s := by
  rcases retireWith_cases tb checks n write s with ⟨x, -, e⟩ | ⟨-, e⟩ <;> rw [e]
  · exact judged_refuse hs x
  · exact ⟨nofun, hw⟩

end

namespace KeptByWrites

variable {p : State → Prop} (h : KeptByWrites p) {s : State} (hs : p s) (n : Nat) (fs : Fields)
include h hs

/-! ### Counts kept at other records -/

theorem joinTank (tank : Option Nat) : p (joinTank tank s) := by
  cases tank with
  | none => exact hs
  | some k => exact h.updTank hs k _
theorem leaveTank (tank : Option Nat) : p (leaveTank tank s) := by
  cases tank with
  | none => exact hs
  | some k => exact h.updTank hs k _
theorem addStandby (set : Option Nat) : p (addStandby set s) := by
  cases set with
  | none => exact hs
  | some k => exact h.updSet hs k _
theorem dropStandby (set : Option Nat) : p (dropStandby set s) := by
  cases set with
  | none => exact hs
  | some k => exact h.updSet hs k _

/-! ### ENROL -/

theorem enrolSet : (enrolSet fs s).Judged p s := by
  refine judged_enrolWith hs (fun hpass => h.recomputeSupply (h.joinTank (h.onTagIndex ?_ _) _) _)
  exact h.sets _ (.putFree _ _ (passes_of_firstFailing (k := 4) hpass rfl) _) (h.bumpId hs)
theorem enrolTank : (enrolTank fs s).Judged p s := by
  refine judged_enrolWith hs (fun hpass => h.recomputeTank ?_ _)
  exact h.tanks _ (.putFree _ _ (passes_of_firstFailing (k := 3) hpass rfl) _) (h.bumpId hs)
theorem enrolZone : (enrolZone fs s).Judged p s := by
  refine judged_enrolWith hs (fun hpass => ?_)
  unfold writeZone
  exact h.zones _ (.putFree _ _ (passes_of_firstFailing (k := 2) hpass rfl) _) hs
theorem enrolBus : (enrolBus fs s).Judged p s := by
  refine judged_enrolWith hs (fun hpass => h.arbitrate (h.addStandby (h.updZone ?_ _ _) _) _)
  exact h.buses _ (.putFree _ _ (passes_of_firstFailing (k := 6) hpass rfl) _) hs
theorem enrolFeeder : (enrolFeeder fs s).Judged p s := by
  refine judged_enrolWith hs (fun hpass => h.updAccount (h.updBus ?_ _ _) _ _)
  exact h.feeders _ (.putFree _ _ (passes_of_firstFailing (k := 4) hpass rfl) _) hs
theorem enrolAccount : (enrolAccount fs s).Judged p s := by
  refine judged_enrolWith hs (fun hpass => ?_)
  unfold writeAccount
  exact h.accounts _ (.putFree _ _ (passes_of_firstFailing (k := 2) hpass rfl) _) hs
theorem enrolNode : (enrolNode n fs s).Judged p s := by
  refine judged_enrolWith hs (fun hpass => ?_)
  unfold writeNode
  refine h.nodes _ (fun hw => ?_) hs
  have hrange := passes_of_firstFailing (k := 0) hpass rfl
  simp only [Bool.and_eq_true, inRange, decide_eq_true_eq] at hrange
  obtain ⟨⟨⟨-, hlow, hhigh⟩, -⟩, -⟩ := hrange
  exact Tbl.wf_put _ hw (by omega) hhigh
theorem enrolTable (a : Asked) (tb : TableId) : (enrolTable a tb s).Judged p s := by
  cases tb with
  | sets => exact h.enrolSet hs _
  | tanks => exact h.enrolTank hs _
  | zones => exact h.enrolZone hs _
  | buses => exact h.enrolBus hs _
  | feeders => exact h.enrolFeeder hs _
  | accounts => exact h.enrolAccount hs _
  | nodes => exact h.enrolNode hs _ _
  | deliveries => exact judged_refuse hs _
  | site => exact judged_refuse hs _

/-! ### AMEND -/

theorem writeSetAmend : p (writeSetAmend n fs s) := by
  have written := h.updSet hs n (SetRec.amended fs)
  exact iteInduction (fun _ => written)
    (fun _ => h.recomputeSupply (h.recomputeSupply (h.joinTank (h.leaveTank written _) _) _) _)
theorem writeTankAmend : p (writeTankAmend n fs s) := by
  have written := h.updTank hs n (TankRec.amended fs)
  exact iteInduction (fun _ => written) (fun _ => h.evalLowMark written n)
theorem moveStandby (new : Option Nat) : p (moveStandby n new s) := by
  refine iteInduction (fun _ => hs) (fun _ => ?_)
  have moved := h.addStandby (h.dropStandby (h.updBus hs n (fun b => { b with standby := new, queued := false }))
    (s.busRec n).standby) new
  exact iteInduction (fun _ => h.arbitrate moved _) (fun _ => moved)
theorem writeBusAmend : p (writeBusAmend n fs s) := by
  refine h.moveStandby (h.updBus ?_ n _) n _
  exact iteInduction (fun _ => hs) (fun _ => h.updZone (h.updZone (h.updBus hs n _) _ _) _ _)
theorem writeFeederAmend : p (writeFeederAmend n fs s) := by
  have moved : p (moveBus n (fs.valOr 2 (s.feederRec n).bus) s) :=
    iteInduction (fun _ => hs) (fun _ => h.updBus (h.updBus (h.updFeeder hs n _) _ _) _ _)
  refine h.updFeeder ?_ n _
  exact iteInduction (fun _ => moved) (fun _ => h.updAccount (h.updAccount (h.updFeeder moved n _) _ _) _ _)
/-- The hold is looked at again only where the AMEND was not refused (R150). -/
theorem amendSite : (amendSite fs s).Judged p s := by
  have hr := judged_amendUnless (refusal := amendRefusal .site fs siteFieldRefusal) (tb := .site) (n := 1)
    (adjusted := fs.clamped 1 10 600 || fs.clamped 2 15 1440 || fs.clamped 3 0 1439) hs
    (h.onSite hs (Site.amended fs))
  refine ⟨fun href => ⟨(hr.untouched href).1, decide_eq_false ?_⟩, hr.kept⟩
  rintro (e | e) <;> exact absurd (e ▸ href) (by decide)
theorem amendRecord (tb : TableId) : (amendRecord tb n fs s).Judged p s := by
  cases tb with
  | sets => exact iteInduction (fun _ => judged_refuse hs _) (fun _ => judged_amendUnless hs (h.writeSetAmend hs n fs))
  | tanks => exact judged_amendUnless hs (h.writeTankAmend hs n fs)
  | zones => exact judged_amendUnless hs (h.zones _ (.upd _ _ _ _) hs)
  | buses => exact judged_amendUnless hs (h.writeBusAmend hs n fs)
  | feeders => exact judged_amendUnless hs (h.writeFeederAmend hs n fs)
  | accounts => exact iteInduction (fun _ => judged_refuse hs _) (fun _ => judged_amendUnless hs (h.updAccount hs n _))
  | nodes =>
    exact iteInduction (fun _ => judged_refuse hs _) (fun _ => judged_amendUnless hs (h.nodes _ (.upd _ _ _ _) hs))
  | site => exact h.amendSite hs fs
  | deliveries => exact judged_refuse hs _
theorem amendTable (a : Asked) (tb : TableId) : (amendTable a tb s).Judged p s :=
  iteInduction (fun _ => judged_refuse hs _) (fun _ => iteInduction (fun _ => judged_refuse hs _)
    (fun _ => iteInduction (fun _ => judged_refuse hs _) (fun _ => h.amendRecord hs _ _ tb)))

/-! ### RETIRE -/

theorem writeSetRetire : p (writeSetRetire n s) := by
  have retiring : p (dropSetPoll n
      ((leaveTag (s.setRec n).tag n s).updSet n (fun r => { r with status := .retiring }))) :=
    h.onPass (h.updSet (h.onTagIndex hs _) n _) _
  unfold Machine.writeSetRetire orderDown
  dsimp only
  split
  · exact h.sendCool retiring n
  · exact h.sendStop retiring n
  all_goals exact retiring
theorem writeBusRetire : p (writeBusRetire n s) := by
  refine h.buses _ (.del _ _ n) (h.updZone (h.dropStandby ?_ _) _ _)
  exact forEach_induct p _ _ (fun x _ _ ht => h.decSupplies ht x) s hs
theorem writeFeederRetire : p (writeFeederRetire n s) :=
  h.dropFeederPoll (h.updAccount (h.updBus (h.feeders _ (.del _ _ n) hs) _ _) _ _) n _
theorem retireRecord (tb : TableId) : (retireRecord tb n s).Judged p s := by
  cases tb with
  | sets =>
    unfold Machine.retireRecord retireSet
    dsimp only
    split
    · exact judged_refuse hs _
    · exact judged_accept rfl _ _ (h.writeSetRetire hs n)
  | accounts =>
    unfold Machine.retireRecord retireAccount
    dsimp only
    split
    · exact judged_refuse hs _
    · exact judged_accept rfl _ _ (h.updAccount hs n _)
  | tanks => exact judged_retireWith hs (h.tanks _ (.del _ _ n) hs)
  | zones => exact judged_retireWith hs (h.zones _ (.del _ _ n) hs)
  | buses => exact judged_retireWith hs (h.writeBusRetire hs n)
  | feeders => exact judged_retireWith hs (h.writeFeederRetire hs n)
  | nodes => exact judged_retireWith hs (h.nodes _ (.del _ _ n) hs)
  | deliveries => exact judged_refuse hs _
  | site => exact judged_refuse hs _
theorem retireTable (a : Asked) (tb : TableId) : (retireTable a tb s).Judged p s :=
  iteInduction (fun _ => judged_refuse hs _) (fun _ => iteInduction (fun _ => judged_refuse hs _)
    (fun _ => h.retireRecord hs _ tb))

/-! ### The operational requests -/

section
variable (a : Asked)

theorem changeoverOwn : (changeoverOwn a n s).Judged p s := by
  unfold Machine.changeoverOwn
  dsimp only
  split
  · refine iteInduction (fun _ => ?_) (fun _ => judged_refuse hs _)
    split
    · exact judged_refuse hs _
    · exact judged_accept rfl _ _ (h.acceptChangeover hs n _ _ _)
  · exact judged_refuse hs _
theorem cancelChangeover (ring : Nat) (by_ : Party) :
    (acceptOr .buses n (cancelChangeover n ring by_ s)).Judged p s := by
  refine judged_acceptOr hs ?_ _ _
  unfold Machine.cancelChangeover
  dsimp only
  split
  · exact .inr rfl
  · split
    case h_1 => exact .inl ⟨rfl, h.finish (h.abortBack hs n _) _⟩
    case h_2 => exact .inl ⟨rfl, h.finish (h.abortBack hs n _) _⟩
    all_goals exact .inr rfl
theorem confirmOwn : (confirmOwn a n s).Judged p s := by
  refine iteInduction (fun _ => judged_acceptOr hs ?_ _ _) (fun _ => judged_refuse hs _)
  unfold confirmSupply
  dsimp only
  split_ifs
  · exact .inr rfl
  · exact .inr rfl
  · exact .inr rfl
  · exact .inl ⟨rfl, h.finish (h.resolve hs n _) _⟩
theorem dipOwn : (dipOwn a n s).Judged p s := by
  unfold Machine.dipOwn
  split
  · exact judged_refuse hs _
  · split
    · exact judged_refuse hs _
    · exact judged_accept rfl _ _ (h.reconcileTank hs n _)
theorem reseatOwn : (reseatOwn a n s).Judged p s := by
  unfold Machine.reseatOwn
  split
  · exact judged_refuse hs _
  · exact iteInduction (fun _ => judged_accept rfl _ _ (h.updFeeder hs n _)) (fun _ => judged_refuse hs _)
theorem startPassOwn : (startPassOwn n s).Judged p s := by
  unfold Machine.startPassOwn
  split
  · exact judged_accept rfl _ _ (h.startPass (h.onPass hs _) false)
  · exact judged_refuse hs _
theorem closePeriodOwn : (closePeriodOwn n s).Judged p s :=
  iteInduction (fun _ => judged_accept rfl _ _ (h.closeDue (h.onSite hs _))) (fun _ => judged_refuse hs _)
theorem openDeliveryOwn : (openDeliveryOwn a n s).Judged p s := by
  unfold Machine.openDeliveryOwn
  dsimp only
  split
  · split
    · exact judged_refuse hs _
    · exact judged_accept rfl _ _ (h.updCtx (h.bumpId hs) _ _)
  · exact judged_refuse hs _
theorem nominateTable : (nominateTable a s).Judged p s := by
  unfold Machine.nominateTable nominateOwn
  dsimp only
  split
  · exact judged_onRecord hs _ _ (fun _ => judged_refuse hs _)
  · split_ifs
    · exact judged_refuse hs _
    · exact judged_refuse hs _
    · exact judged_refuse hs _
    · split
      · exact judged_refuse hs _
      · exact judged_accept rfl _ _ (h.updCtx hs _ _)
    · exact judged_refuse hs _
theorem suspendDelivery : (acceptOr .deliveries n (suspendDelivery n s)).Judged p s := by
  refine judged_acceptOr hs ?_ _ _
  have marked := h.updCtx hs n (fun c => { c with byRequest := true })
  unfold Machine.suspendDelivery
  dsimp only
  split
  case h_1 => exact .inl ⟨rfl, h.raise _ _ _ _ (h.updCtx hs n _)⟩
  case h_2 => exact .inl ⟨rfl, h.suspendFlow marked n⟩
  case h_3 => exact .inl ⟨rfl, marked⟩
  case h_4 => exact .inl ⟨rfl, marked⟩
  all_goals exact .inr rfl
theorem resumeDelivery : (acceptOr .deliveries n (resumeDelivery n s)).Judged p s := by
  refine judged_acceptOr hs ?_ _ _
  unfold Machine.resumeDelivery
  split
  · exact .inl ⟨rfl, h.resumeIfFree (h.updCtx hs n _) n⟩
  · exact .inl ⟨rfl, h.resumeStalled hs n⟩
  all_goals exact .inr rfl
theorem skipNomination : (acceptOr .deliveries n (skipNomination n s)).Judged p s := by
  refine judged_acceptOr hs ?_ _ _
  unfold Machine.skipNomination
  dsimp only
  split
  · refine .inl ⟨rfl, h.takeUpFrom (h.updCtx ?_ n _) n _⟩
    exact iteInduction (fun _ => h.creditCurrent hs n _) (fun _ => h.updCtx hs n _)
  · exact .inr rfl
theorem abandonDelivery : (acceptOr .deliveries n (abandonDelivery n s)).Judged p s := by
  refine judged_acceptOr hs ?_ _ _
  have halted : p (if (s.ctx n).state = .gathering then s else orderBowser n Kind.haltFill .nothing s) :=
    iteInduction (fun _ => hs) (fun _ => h.order _ _ _ _ hs)
  unfold Machine.abandonDelivery
  dsimp only
  split
  · refine .inl ⟨rfl, h.enterDone (h.updCtx ?_ n _) n _⟩
    exact iteInduction (fun _ => h.creditCurrent halted n _) (fun _ => halted)
  · exact .inr rfl
theorem collectDocketOwn : (collectDocketOwn n s).Judged p s :=
  iteInduction (fun _ => ⟨nofun, h.updCtx hs n _⟩) (fun _ => judged_refuse hs _)
theorem collectStatementOwn : (collectStatementOwn n s).Judged p s := by
  unfold Machine.collectStatementOwn
  dsimp only
  split
  · exact judged_refuse hs _
  · exact ⟨nofun, iteInduction (fun _ => h.accounts _ (.del _ _ n) hs) (fun _ => h.updAccount hs n _)⟩
theorem takeNotice : (takeNotice a s).Judged p s := by
  refine ⟨fun href => ?_, h.notice hs⟩
  unfold Machine.takeNotice Port.takeNotice at href
  dsimp only at href
  split at href <;> cases href

end

/-- Every kind of request is refused without a change, or writes what `p` outlives. -/
theorem own_judged (k : ReqKind) (a : Asked) : (k.own a s).Judged p s := by
  cases k with
  | lookup => exact judged_onTable hs (judged_lookup hs a)
  | find => exact judged_onTable hs (judged_find hs a)
  | enrol => exact judged_onTable hs (h.enrolTable hs a)
  | amend => exact judged_onTable hs (h.amendTable hs a)
  | retire => exact judged_onTable hs (h.retireTable hs a)
  | changeover => exact judged_onRecord hs _ _ (fun n => h.changeoverOwn hs n a)
  | cancelChangeover => exact judged_operate hs _ (fun n => h.cancelChangeover hs n _ _)
  | confirmSupply => exact judged_onRecord hs _ _ (fun n => h.confirmOwn hs n a)
  | dipEntry => exact judged_onRecord hs _ _ (fun n => h.dipOwn hs n a)
  | reseatFeeder => exact judged_onRecord hs _ _ (fun n => h.reseatOwn hs n a)
  | startPass => exact judged_operate hs _ (fun n => h.startPassOwn hs n)
  | openDelivery => exact judged_onRecord hs _ _ (fun n => h.openDeliveryOwn hs n a)
  | nominate => exact h.nominateTable hs a
  | suspendDelivery => exact judged_operate hs _ (fun n => h.suspendDelivery hs n)
  | resumeDelivery => exact judged_operate hs _ (fun n => h.resumeDelivery hs n)
  | skipNomination => exact judged_operate hs _ (fun n => h.skipNomination hs n)
  | abandonDelivery => exact judged_operate hs _ (fun n => h.abandonDelivery hs n)
  | collectDocket => exact judged_operate hs _ (fun n => h.collectDocketOwn hs n)
  | closePeriod => exact judged_operate hs _ (fun n => h.closePeriodOwn hs n)
  | collectStatement => exact judged_operate hs _ (fun n => h.collectStatementOwn hs n)
  | takeNotice => exact h.takeNotice hs a

end KeptByWrites

end Sys2Proof.Machine

/-! ## SUPPORT. What every write keeps, every step keeps -/

namespace Sys2Proof.Machine

theorem unlessHeld_kept {p : State → Prop} {s : State} (hs : p s) {f : State → State} (hf : p (f s)) :
    p (unlessHeld f s) :=
  iteInduction (fun _ => hs) (fun _ => hf)

namespace KeptByWrites

variable {p : State → Prop} (h : KeptByWrites p) {s t : State}
include h

theorem deliver (party : Party) {x : Answered} (hx : p x.state) : p (deliver party x) := by
  have answered : p (match party with
      | .port => x.state.onPort (Port.respond x.response)
      | .node n => offerOutcome n x.response x.state) := by
    cases party with
    | port => exact h.respond _ hx
    | node n => exact h.outcome _ _ hx
  cases party <;> exact iteInduction (fun _ => h.releaseHold answered) (fun _ => answered)

variable (hs : p s)
include hs

theorem request (k : ReqKind) (src : Source) : p (runRequest k k.own src s) := by
  have checked {u : State} (hu : p u) (party : Party) (q : Request) :
      p (Machine.deliver party (checkRequest k k.own party q u)) :=
    h.deliver party (judged_checkRequest hu party q (h.own_judged hu k)).kept
  cases src with
  | port =>
    unfold runRequest
    dsimp only
    split
    · exact hs
    · exact iteInduction (fun _ => checked hs _ _) (fun _ => hs)
  | slot n =>
    unfold runRequest
    refine h.dispatchSlot hs n (fun x _ u hu => ?_)
    unfold dispatchRequest
    dsimp only
    refine iteInduction (fun _ => h.outcome _ _ hu) (fun _ => ?_)
    split
    · exact h.outcome _ _ hu
    · exact checked hu _ _

theorem exec_next {c : Instr} (ht : exec c s = .next t) : p t := by
  have next {u : State} (hu : p u) (e : (.next u : Host.Outcome State Fault Refusal) = .next t) : p t := by
    cases e; exact hu
  have ofRequest (k : ReqKind) (src : Source) (e : exec (k.command src) s = .next t) : p t :=
    next (h.request hs k src) ((exec_command k src s).symm.trans e)
  cases c with
  | coldStart => exact next (h.cold _) ht
  | lineReset => exact next (iteInduction (fun _ => hs) (fun _ => h.lineReset hs)) ht
  | lineResetRelease => exact next (iteInduction (fun _ => h.lineResetRelease hs) (fun _ => hs)) ht
  | read clocked =>
    refine next ?_ ht
    split
    · exact h.zeros _ hs
    · exact h.read _ hs
  | write bytes bits => exact next (unlessHeld_kept hs (h.transact bytes bits hs)) ht
  | lookup src => exact ofRequest .lookup src ht
  | find src => exact ofRequest .find src ht
  | enrol src => exact ofRequest .enrol src ht
  | amend src => exact ofRequest .amend src ht
  | retire src => exact ofRequest .retire src ht
  | changeover src => exact ofRequest .changeover src ht
  | cancelChangeover src => exact ofRequest .cancelChangeover src ht
  | confirmSupply src => exact ofRequest .confirmSupply src ht
  | dipEntry src => exact ofRequest .dipEntry src ht
  | reseatFeeder src => exact ofRequest .reseatFeeder src ht
  | startPass src => exact ofRequest .startPass src ht
  | openDelivery src => exact ofRequest .openDelivery src ht
  | nominate src => exact ofRequest .nominate src ht
  | suspendDelivery src => exact ofRequest .suspendDelivery src ht
  | resumeDelivery src => exact ofRequest .resumeDelivery src ht
  | skipNomination src => exact ofRequest .skipNomination src ht
  | abandonDelivery src => exact ofRequest .abandonDelivery src ht
  | collectDocket src => exact ofRequest .collectDocket src ht
  | closePeriod src => exact ofRequest .closePeriod src ht
  | collectStatement src => exact ofRequest .collectStatement src ht
  | takeNotice src => exact ofRequest .takeNotice src ht
  | frameReceive bytes =>
    refine next (iteInduction (fun _ => ?_) (fun _ => h.receiveFrame hs bytes)) ht
    exact h.aroundQueue ⟨_, _, _, _, _, _, rfl⟩ hs
  | receiveHoldExpiry => exact next (unlessHeld_kept hs (h.endReceiveHold hs)) ht
  | state slot => exact next (h.dispatchSlot hs slot (fun x m _ hu => h.dispatchState hu x m)) ht
  | syncOk slot => exact next (h.dispatchSlot hs slot (fun x m _ hu => h.dispatchSyncOk hu x m)) ht
  | inputs slot => exact next (h.dispatchSlot hs slot (fun x m _ hu => h.dispatchInputs hu x m)) ht
  | level slot => exact next (h.dispatchSlot hs slot (fun x m _ hu => h.dispatchLevel hu x m)) ht
  | reading slot => exact next (h.dispatchSlot hs slot (fun x m _ hu => h.dispatchReading hu x m)) ht
  | bowserMeter slot => exact next (h.dispatchSlot hs slot (fun x m _ hu => h.dispatchBowserMeter hu x m)) ht
  | hoseDone slot => exact next (h.dispatchSlot hs slot (fun x m _ hu => h.dispatchHoseDone hu x m)) ht
  | result slot => exact next (h.dispatchSlot hs slot (fun x m _ hu => h.dispatchResult hu x m)) ht
  | valveShutReply slot => exact next (h.dispatchSlot hs slot (fun x m _ hu => h.dispatchValveShut hu x m)) ht
  | sendFrame contenders answer => exact next (unlessHeld_kept hs (h.sendFrame hs contenders answer)) ht
  | sendHoldAnswer accepted => exact next (unlessHeld_kept hs (h.endSendHold hs accepted)) ht
  | sendHoldExpiry => exact next (unlessHeld_kept hs (h.endSendHold hs false)) ht
  | replyDeadline node => exact next (unlessHeld_kept hs (h.replyDeadlineEnds hs node)) ht
  | minuteTick => exact next (unlessHeld_kept hs (h.minuteTick hs)) ht
  | scanDeadline => exact next (unlessHeld_kept hs (h.scanEnds hs)) ht
  | coolDownDeadline set => exact next (unlessHeld_kept hs (h.coolDownEnds hs set)) ht
  | warmUpDeadline bus => exact next (unlessHeld_kept hs (h.warmUpEnds hs bus)) ht
  | fuelWaitDeadline bus => exact next (unlessHeld_kept hs (h.fuelWaitEnds hs bus)) ht
  | phaseDeadline bus => exact next (unlessHeld_kept hs (h.phaseEnds hs bus)) ht
  | gatheringDeadline ctx => exact next (unlessHeld_kept hs (h.gatheringEnds hs ctx)) ht
  | fillDeadline ctx => exact next (unlessHeld_kept hs (h.fillEnds hs ctx)) ht
  | settleDeadline ctx => exact next (unlessHeld_kept hs (h.settleEnds hs ctx)) ht
  | unknownKindFrame slot => exact next (h.dispatchSlot hs slot (fun x _ _ hu => h.closedUnanswered hu _)) ht

theorem tick_next (ht : tick s = .next t) : p t := by
  unfold tick at ht
  split at ht
  · cases ht
    exact h.beside (s := s) ⟨_, _, _, _, _, _, _, _, _, _, _, rfl⟩ hs
  · cases ht

theorem idleStep_next (ht : idleStep s = .next t) : p t := by
  unfold idleStep at ht
  split at ht
  · cases ht
    exact h.setPending hs _
  · cases ht
    exact h.setPending hs _
  · exact h.tick_next hs ht

omit hs in
/-- What each kind of write keeps, every step of the machine keeps. -/
theorem step_kept : Kept p := by
  intro s t hs ht
  unfold step at ht
  split at ht
  · exact h.idleStep_next hs ht
  · exact h.exec_next (h.setPending hs _) ht

end KeptByWrites

/-! ## SUPPORT. The canonical form of the tables, and refusals -/

theorem tablesOk_iff {s : State} : s.tablesOk = true ↔ s.sets.wf Config.sets = true ∧ s.tanks.wf Config.tanks = true
    ∧ s.zones.wf Config.zones = true ∧ s.buses.wf Config.buses = true ∧ s.feeders.wf Config.feeders = true
    ∧ s.accounts.wf Config.accounts = true ∧ s.nodes.wf Config.nodes = true := by
  simp only [State.tablesOk, Bool.and_eq_true, and_assoc]

/-- The canonical form of the tables is kept by every kind of write (00_scope.md, "Capacities"). -/
theorem tablesOk_keptByWrites : KeptByWrites (fun s => s.tablesOk = true) where
  beside := by
    rintro s _ ⟨_, _, _, _, _, _, _, _, _, _, _, rfl⟩ hs
    exact hs
  aroundQueue := by
    rintro s _ ⟨_, _, _, _, _, _, rfl⟩ hs
    exact hs
  order _ _ _ _ hs := hs
  query {s} d k q front hs := by
    rcases offerQuery_cases d k q front s with ⟨-, _, e⟩ | ⟨-, e⟩ <;> rw [e] <;> exact hs
  outcome _ _ hs := hs
  leave _ hs := hs
  raise _ _ _ _ hs := hs
  respond _ hs := hs
  notice hs := hs
  zeros _ hs := hs
  read _ hs := hs
  transact _ _ hs := hs
  emptied hs := hs
  cold _ := (by decide : State.reset.tablesOk = true)
  sets f hf hs := by
    rw [tablesOk_iff] at hs ⊢
    exact hs.imp_left hf
  tanks f hf hs := by
    rw [tablesOk_iff] at hs ⊢
    exact hs.imp_right (And.imp_left hf)
  zones f hf hs := by
    rw [tablesOk_iff] at hs ⊢
    exact hs.imp_right (And.imp_right (And.imp_left hf))
  buses f hf hs := by
    rw [tablesOk_iff] at hs ⊢
    exact hs.imp_right (And.imp_right (And.imp_right (And.imp_left hf)))
  feeders f hf hs := by
    rw [tablesOk_iff] at hs ⊢
    exact hs.imp_right (And.imp_right (And.imp_right (And.imp_right (And.imp_left hf))))
  accounts f hf hs := by
    rw [tablesOk_iff] at hs ⊢
    exact hs.imp_right (And.imp_right (And.imp_right (And.imp_right (And.imp_right (And.imp_left hf)))))
  nodes f hf hs := by
    rw [tablesOk_iff] at hs ⊢
    exact hs.imp_right (And.imp_right (And.imp_right (And.imp_right (And.imp_right (And.imp_right hf)))))

end Sys2Proof.Machine

/-! ## SUPPORT. The answer, delivered, and what a refused request leaves -/

namespace Sys2Proof.Machine

/-- A HELD close performed leaves the slots of the port. -/
@[simp] theorem releaseHold_response (s : State) : (releaseHold s).port.response = s.port.response :=
  iteInduction (motive := fun u : State => u.port.response = s.port.response)
    (fun _ => (performClose_carries (v := id) s).port.response) (fun _ => rfl)

theorem deliver_port_response (x : Answered) :
    (deliver .port x).port.response = some { x.response with overrun := x.state.port.overrun } := by
  unfold deliver
  dsimp only
  split
  · exact releaseHold_response _
  · rfl

/-- With no close HELD there is none to examine (R150). -/
theorem deliver_of_not_held (party : Party) {x : Answered} (h : x.state.site.closeState ≠ .held) (release : Bool) :
    deliver party { x with release } = deliver party { x with release := false } := by
  have unheld {u : State} (hu : u.site.closeState ≠ .held) : releaseHold u = u := if_neg (fun hc => hu hc.1)
  cases release with
  | false => rfl
  | true => cases party <;> exact unheld h

/-- The property of every state is kept: of an answer it leaves to say that a refusal changes nothing. -/
theorem true_keptByWrites : KeptByWrites (fun _ => True) := by
  constructor <;> intros <;> trivial

/-- A refusal of a request on the port changes the port alone. -/
theorem deliver_port_refused {p : State → Prop} {s : State} {x : Answered} (hx : x.Judged p s)
    (hr : ∀ r, (deliver .port x).port.response = some r → r.answer.refusal = true) :
    deliver .port x = { s with port := (deliver .port x).port } := by
  have href := hr _ (deliver_port_response x)
  obtain ⟨hsame, hrelease⟩ := hx.untouched href
  rw [deliver_port hrelease, hsame]
  rfl

/-! ## SUPPORT. The first four checks -/

section
variable {s u : State} {k : ReqKind} {src : Source} {a : Asked}

/-- A request that passes checks 1 to 4 is answered by its own checks. -/
theorem answers_of_presents (h : Presents s k src a u) (hmatched : a.req.matched k = true)
    (hring : ringAdmits k (TableId.ofCode a.req.table) a.ring = true) :
    Answers (k.command src) s a (k.own a u) := by
  unfold Answers
  rw [exec_command, runRequest_of_presents _ h, hmatched, hring]
  rfl

/-- Check 2 fails: the claim is no ring. -/
theorem checkRequest_of_no_ring (own : Asked → State → Answered) {p : Party} {q : Request}
    (h : effectiveRing (u.linkRing p) q.ring = none) : checkRequest k own p q u = refuse .ringInvalid u := by
  unfold checkRequest
  rw [h]

/-- Check 1 fails at a node whose role or kind bars it. -/
theorem runRequest_of_barred (own : Asked → State → Answered) {n : Nat} {x : Slot}
    (hx : s.line.dispatchable n = some x) (hm : x.frame.message x.closes = .request k)
    (hknown : (s.onLine (Line.freeAt n)).knownNode x.frame.source = true)
    (hbarred : barred k x.frame.source (s.onLine (Line.freeAt n)) = true) :
    runRequest k own (.slot n) s =
      offerOutcome x.frame.source { answer := .notPermitted } (s.onLine (Line.freeAt n)) := by
  simp only [runRequest, dispatchSlot, hx, hm, decide_true, if_true, hknown, dispatchRequest, hbarred]

end

/-! ## SUPPORT. LOOKUP and FIND -/

section
variable {s u : State} {t : TableId} {a : Asked} {n : Nat} {ids : List Nat} {named : Fields} {pairs : List (Nat × Nat)}

/-! ### The pairs returned (R163) -/

theorem showPairs_all : showPairs ids [] n pairs u = shown u n pairs := rfl

theorem showPairs_named (hne : named ≠ []) (h : ∀ p ∈ named, p.1 ∈ ids) :
    showPairs ids named n pairs u = shown u n (pairs.filter (fun p => p.1 ∈ named.map Prod.fst)) := by
  have hall : named.all (fun p => decide (p.1 ∈ ids)) = true := by simpa using h
  have hsel : named.isEmpty = false := by simpa using hne
  rw [showPairs, if_pos hall, selectPairs, hsel]
  rfl

theorem showPairs_unheld (h : ∃ p ∈ named, p.1 ∉ ids) : showPairs ids named n pairs u = refuse .outOfRange u := by
  have hall : ¬ named.all (fun p => decide (p.1 ∈ ids)) = true := by simpa using h
  exact if_neg hall

/-! ### The record -/

/-- A number that has pairs to show names a record. -/
theorem holds_of_recordPairs (h : u.recordPairs t n = some pairs) : u.holds t n = true := by
  cases t with
  | deliveries => exact decide_eq_true (by_contra fun hn => by rw [State.recordPairs, if_neg hn] at h; cases h)
  | site => exact decide_eq_true (by_contra fun hn => by rw [State.recordPairs, if_neg hn] at h; cases h)
  | sets | tanks | zones | buses | feeders | accounts | nodes =>
    obtain ⟨r, hr, -⟩ := Option.map_eq_some_iff.1 h
    exact Option.isSome_iff_exists.2 ⟨r, hr⟩

theorem showRecord_reached (h : u.recordPairs t n = some pairs) (hr : a.mayReach t n .read u = true) :
    showRecord a t n u = showPairs t.fieldIds a.req.fields n pairs u := by
  rw [showRecord, if_pos hr, h]
  rfl

theorem showRecord_noRight (hr : a.mayReach t n .read u = false) : showRecord a t n u = refuse .notPermitted u := by
  rw [showRecord, hr]
  rfl

theorem lookupTable_record (hring : a.ring = 0) (hn : a.req.index ≠ 0)
    (h : u.recordPairs t a.req.index = some pairs) :
    lookupTable a t u = showPairs t.fieldIds a.req.fields a.req.index pairs u := by
  have hreach := Asked.mayReach_ring0 hring t a.req.index .read u
  exact (if_neg hn).trans ((if_pos (holds_of_recordPairs h)).trans (showRecord_reached h hreach))

theorem headerOpen_ring0 (t : TableId) : headerOpen t 0 = true := by cases t <;> rfl

theorem lookupTable_header (hring : a.ring = 0) (hn : a.req.index = 0) (hf : a.req.fields = []) :
    lookupTable a t u = shown u 0 (u.header t) := by
  have hopen : headerOpen t a.ring = true := hring ▸ headerOpen_ring0 t
  refine (if_pos hn).trans ((if_pos hopen).trans ?_)
  rw [hf, showPairs_all]

theorem findTable_found (h : u.findKey t a.req.index = some n) : findTable a t u = showRecord a t n u := by
  rw [findTable, h]

theorem findTable_none (h : u.findKey t a.req.index = none) : findTable a t u = refuse .noRecord u := by
  rw [findTable, h]

/-! ### The request taken up -/

theorem onTable_of_code (own : Asked → TableId → State → Answered) (h : a.req.table = t.code) :
    a.onTable own u = own a t u := by
  rw [Asked.onTable, h, TableId.ofCode_code]

theorem answers_lookup {src : Source} (hp : Presents s .lookup src a u) (ht : a.req.table = t.code)
    (hsel : a.req.selector = 0) : Answers (.lookup src) s a (lookupTable a t u) := by
  have hm : a.req.matched .lookup = true := by simp [Request.matched, ht, hsel, ReqKind.appliesTo]
  exact onTable_of_code lookupTable ht ▸ answers_of_presents hp hm rfl

theorem answers_find {src : Source} (hp : Presents s .find src a u) (ht : a.req.table = t.code)
    (hfind : t ≠ .nodes ∧ t ≠ .site) (hsel : a.req.selector = 1) : Answers (.find src) s a (findTable a t u) := by
  have hm : a.req.matched .find = true := by simp [Request.matched, ht, hsel, ReqKind.appliesTo, hfind]
  exact onTable_of_code findTable ht ▸ answers_of_presents hp hm rfl

end

/-- In canonical form, what a key finds holds the key. -/
theorem Tbl.find_key {α : Type} {t : Tbl α} (hw : t.nums.Pairwise (· < ·)) {field : α → Nat} {key n : Nat}
    (h : t.numWhere (fun r => decide (field r = key)) = some n) : ∃ r, t.find n = some r ∧ field r = key := by
  obtain ⟨r, hr, hkey⟩ := Tbl.find_numWhere hw h
  exact ⟨r, hr, of_decide_eq_true hkey⟩

theorem zones_rise {s : State} (h : s.tablesOk = true) : s.zones.nums.Pairwise (· < ·) := by
  obtain ⟨-, -, hzones, -⟩ := tablesOk_iff.1 h
  exact (Tbl.wf_iff.1 hzones).1

/-! ## SUPPORT. ENROL of a node (R168) -/

section
variable {n role ring : Nat} {u : State}

/-- With its two fields given, what is left of the checks is the address, the role, the ring and the entry. -/
theorem enrolNode_checked (n role ring : Nat) (u : State) :
    enrolNode n [(2, role), (3, ring)] u =
      match firstFailing
        [ (inRange 2 62 n && (NodeRole.ofCode role).isSome && ringOk ring, .outOfRange)
        , ((u.node? n).isNone, .duplicate) ] with
      | some x => refuse x u
      | none => accept .done .nodes n (writeNode n [(2, role), (3, ring)] u) := rfl

theorem enrolNode_outOfRange (h : (inRange 2 62 n && (NodeRole.ofCode role).isSome && ringOk ring) = false) :
    enrolNode n [(2, role), (3, ring)] u = refuse .outOfRange u := by
  rw [enrolNode_checked, h]
  rfl

section
variable (hrange : (inRange 2 62 n && (NodeRole.ofCode role).isSome && ringOk ring) = true)
include hrange

theorem enrolNode_duplicate (h : (u.node? n).isSome = true) :
    enrolNode n [(2, role), (3, ring)] u = refuse .duplicate u := by
  have hused : (u.node? n).isNone = false := by simpa using h
  rw [enrolNode_checked, hrange, hused]
  rfl

theorem enrolNode_accepted (h : u.node? n = none) :
    enrolNode n [(2, role), (3, ring)] u =
      accept .done .nodes n (writeNode n [(2, role), (3, ring)] u) := by
  rw [enrolNode_checked, hrange, h]
  rfl

end

theorem writeNode_of_role {r : NodeRole} (h : NodeRole.ofCode role = some r) :
    writeNode n [(2, role), (3, ring)] u = u.onNodes (fun t => Tbl.put t n { role := r, ring := ring }) := by
  have hval : Fields.val [(2, role), (3, ring)] 2 = role := rfl
  simp only [writeNode, hval, h]
  rfl

theorem NodeRole.ofCode_isSome_iff : (NodeRole.ofCode role).isSome = true ↔ role ≤ 2 := by
  match role with
  | 0 | 1 | 2 => decide
  | k + 3 => simp [NodeRole.ofCode]

/-- The first check of an ENROL of a node, in words. -/
theorem nodeInRange_iff : (inRange 2 62 n && (NodeRole.ofCode role).isSome && ringOk ring) = true ↔
    (2 ≤ n ∧ n ≤ 62) ∧ role ≤ 2 ∧ (ring = 0 ∨ ring = 1 ∨ ring = 3) := by
  rw [Bool.and_eq_true, Bool.and_eq_true, NodeRole.ofCode_isSome_iff, inRange, ringOk, decide_eq_true_iff,
    decide_eq_true_iff, and_assoc]

end

/-! ## SUPPORT. AMEND of the site record (R176, R177) -/

section
variable {s u : State} {src : Source} {a : Asked} {x y z : Nat}

/-- The fields of an AMEND of the three settings. -/
def siteFields (x y z : Nat) : Fields := [(1, x), (2, y), (3, z)]

/-- Every setting lies in its range (R177). -/
abbrev SettingsInRange (x y z : Nat) : Prop := 10 ≤ x ∧ x ≤ 600 ∧ 15 ≤ y ∧ y ≤ 1440 ∧ z ≤ 1439

theorem siteFields_clamped : ((siteFields x y z).clamped 1 10 600 || (siteFields x y z).clamped 2 15 1440
    || (siteFields x y z).clamped 3 0 1439) = !decide (SettingsInRange x y z) := by
  have hranges : decide (SettingsInRange x y z) = (inRange 10 600 x && inRange 15 1440 y && inRange 0 1439 z) := by
    simp [inRange, Bool.and_assoc]
  rw [hranges, Bool.not_and, Bool.not_and]
  rfl

theorem Site.amended_siteFields (p : Site) : Site.amended (siteFields x y z) p = { p with
    scanInterval := max 10 (min 600 x), periodLength := max 15 (min 1440 y), minuteCount := min 1439 z } := by
  have hz : clamp 0 1439 z = min 1439 z := Nat.zero_max _
  rw [← hz]
  rfl

/-- The three settings are refused for no reason, and the hold is then looked at again (R150). -/
theorem amendSite_siteFields : amendSite (siteFields x y z) u =
    { accept (if SettingsInRange x y z then .done else .doneAdjusted) .site 1
        (u.onSite (Site.amended (siteFields x y z))) with release := true } := by
  have hok : amendRefusal .site (siteFields x y z) siteFieldRefusal = none := rfl
  unfold amendSite amendWith amendUnless
  rw [hok, siteFields_clamped]
  by_cases hin : SettingsInRange x y z
  · rw [decide_eq_true hin, if_pos hin]
    rfl
  · rw [decide_eq_false hin, if_neg hin]
    rfl

theorem amendTable_site (hring : a.ring = 0) (hn : a.names .site 1) :
    amendTable a .site u = amendSite a.req.fields u := by
  obtain ⟨-, -, hindex, -⟩ := hn
  simp [amendTable, hindex, State.holds, hring, amendRecord]

/-- With no close HELD, an AMEND of the three settings is answered and the hold left alone. -/
theorem answers_amendSite (hp : Presents s .amend src a u) (hring : a.ring = 0) (hn : a.names .site 1)
    (hf : a.req.fields = siteFields x y z) (hheld : u.site.closeState ≠ .held) :
    Answers (.amend src) s a (accept (if SettingsInRange x y z then .done else .doneAdjusted) .site 1
      (u.onSite (Site.amended (siteFields x y z)))) := by
  have hm : a.req.matched .amend = true := hn.matched rfl nofun nofun
  have hr : ringAdmits .amend (TableId.ofCode a.req.table) a.ring = true := by
    rw [hn.1, TableId.ofCode_code]
    rfl
  have hans := answers_of_presents hp hm hr
  have hown : ReqKind.amend.own a u = amendSite (siteFields x y z) u :=
    (onTable_of_code amendTable hn.1).trans ((amendTable_site hring hn).trans (by rw [hf]))
  rw [hown, amendSite_siteFields] at hans
  exact hans.trans (congrArg _ (deliver_of_not_held a.party hheld true))

end

end Sys2Proof.Machine

/-! ## The statements of requests and rights, settled -/

namespace Sys2Proof.Proofs

open Sys2Proof.Machine

/-- Settles O13: each write to a table keeps its canonical form, a record put where ENROL found a FREE one or at the
address a node may have. -/
theorem tablesInvariantKept : Obligations.TablesInvariantKept := tablesOk_keptByWrites.step_kept

/-- Settles O24: a refusal comes with the state the request was checked in and no hold to look at, and its delivery
writes the port. -/
theorem refusedRequestWritesNothing : Obligations.RefusedRequestWritesNothing := by
  intro k s t ht href
  rw [exec_command] at ht
  obtain rfl : runRequest k k.own .port s = t := by cases ht; rfl
  unfold runRequest at href ⊢
  dsimp only at href ⊢
  split at href
  · rfl
  next q hq =>
    split at href
    · next hk =>
      rw [if_pos hk]
      exact deliver_port_refused (judged_checkRequest (p := fun _ => True) trivial .port q
        (true_keptByWrites.own_judged trivial k)) href
    · next hk => rw [if_neg hk]

/-- Settles O26: at ring 0 every right is passed, and what is left is the index and the field list. -/
theorem lookupRecord : Obligations.LookupRecord := by
  intro s u src a t hp hring ht hsel
  have hans := answers_lookup hp ht hsel
  refine ⟨fun pairs hn hpairs => ?_, fun hn hf => lookupTable_header hring hn hf ▸ hans⟩
  rw [lookupTable_record hring hn hpairs] at hans
  refine ⟨fun hf => ?_, fun hne hheld => showPairs_named hne hheld ▸ hans,
    fun hunheld => showPairs_unheld hunheld ▸ hans⟩
  rwa [hf, showPairs_all] at hans

/-- Settles O27: a key is resolved first and the right looked at on the record it finds; in canonical form the first
record with the key is the one its number reads as. -/
theorem findByKey : Obligations.FindByKey := by
  refine ⟨fun s u src a t hp ht hnodes hsite hsel => ?_, fun s key n hok => ?_⟩
  · have hans := answers_find hp ht ⟨hnodes, hsite⟩ hsel
    refine ⟨fun n pairs hfound hpairs hf => ?_, fun hnone => findTable_none hnone ▸ hans⟩
    rw [findTable_found hfound] at hans
    refine ⟨fun hreach => ?_, fun hreach => showRecord_noRight hreach ▸ hans⟩
    rwa [showRecord_reached hpairs hreach, hf, showPairs_all] at hans
  · obtain ⟨-, hbuses, hfeeders⟩ := tables_rise hok
    refine ⟨fun h => ?_, fun h => ?_, fun h => ?_⟩
    · obtain ⟨r, hr, hkey⟩ := Tbl.find_key (zones_rise hok) h
      exact ⟨(congrArg ZoneRec.tag (State.zoneRec_of_find hr)).trans hkey, Option.isSome_iff_exists.2 ⟨r, hr⟩⟩
    · obtain ⟨r, hr, hkey⟩ := Tbl.find_key hbuses h
      exact ⟨(congrArg BusRec.panel (State.busRec_of_find hr)).trans hkey, Option.isSome_iff_exists.2 ⟨r, hr⟩⟩
    · obtain ⟨r, hr, hkey⟩ := Tbl.find_key hfeeders h
      exact ⟨(congrArg FeederRec.meter (State.feederRec_of_find hr)).trans hkey,
        Option.isSome_iff_exists.2 ⟨r, hr⟩⟩

/-- Settles O28: past the common checks an ENROL of a node meets two of its own, the range of what it names and the
entry's state. -/
theorem enrolNode : Obligations.EnrolNode := by
  intro s u src a role ring hp hring ht hsel hf n
  have hans : Answers (.enrol src) s a (Machine.enrolNode n [(2, role), (3, ring)] u) :=
    hf ▸ execEnrol_of_presents (t := .nodes) hp hring ht hsel ⟨nofun, nofun⟩
  refine ⟨fun hbad => ?_, fun hlow hhigh hok r hrole => ?_⟩
  · have hfails : (inRange 2 62 n && (NodeRole.ofCode role).isSome && ringOk ring) = false := by
      rw [Bool.eq_false_iff, ne_eq, nodeInRange_iff]
      omega
    exact enrolNode_outOfRange hfails ▸ hans
  · have hpass := nodeInRange_iff.2
      ⟨⟨hlow, hhigh⟩, NodeRole.ofCode_isSome_iff.1 (Option.isSome_iff_exists.2 ⟨r, hrole⟩), hok⟩
    refine ⟨fun hused => enrolNode_duplicate hpass hused ▸ hans, fun hfree => ?_⟩
    rwa [enrolNode_accepted hpass hfree, writeNode_of_role hrole] at hans

/-- Settles O29: each setting is clamped on its own, and DONE_ADJUSTED says that one was. -/
theorem amendSite : Obligations.AmendSite := by
  intro s u src a x y z hp hring hn hf hheld v
  have hans := answers_amendSite hp hring hn hf hheld
  have hv : u.onSite (Site.amended (siteFields x y z)) = v :=
    congrArg (fun p => { u with site := p }) (Site.amended_siteFields u.site)
  rw [hv] at hans
  refine ⟨fun hin => ?_, fun hout => ?_⟩
  · rwa [if_pos hin] at hans
  · rwa [if_neg hout] at hans

/-- Settles O23: check 2 comes before every check that depends on the kind. -/
theorem effectiveRing : Obligations.EffectiveRing := by
  refine ⟨fun s => ⟨rfl, fun _ => rfl⟩, fun link claimed h => ⟨if_pos h, le_max_left ..⟩, ?_⟩
  intro s u k src p q htakes h0 h1 h3
  have hnone : Machine.effectiveRing (u.linkRing p) q.ring = none :=
    if_neg (by rintro (h | h | h) <;> contradiction)
  rw [exec_command, runRequest_of_takes _ htakes, checkRequest_of_no_ring _ hnone]
  rfl

/-- Settles O25: the bar is looked at once the slot is freed and before the request is read. -/
theorem equipmentBarred : Obligations.EquipmentBarred := by
  intro s k n x hx hm hsource hnode hbar
  have hknown : (s.onLine (Line.freeAt n)).knownNode x.frame.source = true :=
    Bool.and_eq_true_iff.2 ⟨decide_eq_true hsource, hnode⟩
  rw [exec_command, runRequest_of_barred _ hx hm hknown (decide_eq_true hbar)]

end Sys2Proof.Proofs

/-! ## SUPPORT. The entries of the outbound queue: what putting a frame in and taking one out keep (R180, R181) -/

namespace Sys2Proof.Machine

/-- An entry of a frame's sort is free: a kept one or a general one (R180). -/
def Line.HasEntry (kept : Bool) (l : Line) : Prop :=
  if kept then l.keptUsed < Config.keptEntries else l.generalUsed < Config.generalEntries

section
variable {l : Line} {f : OutFrame}

/-- A frame put in its place by class, into a free entry of its sort, keeps the queues in order and in bounds. -/
theorem Line.queuesOk_put (h : l.queuesOk) {q : List OutFrame}
    (hsorted : q.Pairwise (fun f g => f.cls.code ≤ g.cls.code))
    (hcount : ∀ p : OutFrame → Bool, q.countP p = l.queue.countP p + (p f).toNat) (hfree : l.HasEntry f.kept) :
    Line.queuesOk { l with queue := q } := by
  obtain ⟨-, hgeneral, hkept, hbacklog⟩ := h
  refine ⟨hsorted, ?_, ?_, hbacklog⟩ <;> simp only [Line.generalUsed, Line.keptUsed, hcount] at *
  all_goals
    unfold Line.HasEntry at hfree
    cases hk : f.kept <;> simp [hk, Line.generalUsed, Line.keptUsed] at hfree ⊢ <;> omega

/-- Offering a REPLY, which takes a general entry or waits, keeps the queues in order and in bounds. -/
theorem Line.queuesOk_offerReply (h : l.queuesOk) (hf : f.kept = false) : (l.offerReply f).queuesOk := by
  unfold Line.offerReply
  split
  next hroom =>
    exact Line.queuesOk_put h (queueBack_sorted f h.1) (countP_queueBack · l.queue f) (by rw [hf]; exact hroom)
  next =>
    obtain ⟨hsorted, hgeneral, hkept, hbacklog⟩ := h
    obtain ⟨b, hb, hlength⟩ := l.toBacklog_spec f
    rw [hb]
    exact ⟨hsorted, hgeneral, hkept, hlength hbacklog⟩

/-- A QUERY, a boundary read or not, takes a general entry or is not queued. -/
theorem offerQuery_queuesOk {s : State} (h : s.line.queuesOk) (dest kind : Nat) (p : Purpose) (front : Bool) :
    (offerQuery dest kind p front s).1.line.queuesOk := by
  unfold offerQuery
  split
  next hroom =>
    have hfree : s.line.HasEntry false := by simpa [Line.HasEntry, Line.roomForQuery] using hroom
    cases front with
    | true => exact Line.queuesOk_put h (queueFront_sorted _ h.1) (countP_queueFront · s.line.queue _) hfree
    | false => exact Line.queuesOk_put h (queueBack_sorted _ h.1) (countP_queueBack · s.line.queue _) hfree
  next => exact h

/-- A frame of the backlog that takes a free entry keeps the queues in order and in bounds. -/
theorem Line.queuesOk_refill (h : l.queuesOk) {kept : Bool} (hfree : l.HasEntry kept) :
    (l.refill kept).queuesOk := by
  unfold Line.refill
  split
  next => exact h
  next f _ =>
    obtain ⟨hsorted, hgeneral, hkept, hbacklog⟩ :=
      Line.queuesOk_put h (queueBack_sorted { f with kept } h.1) (countP_queueBack · l.queue _) hfree
    exact ⟨hsorted, hgeneral, hkept, List.length_erase_le.trans hbacklog⟩

/-- Taking a queued frame out leaves fewer frames of every sort it is of. -/
theorem countP_without_lt {q : List OutFrame} (hf : f ∈ q) {p : OutFrame → Bool} (hp : p f = true) :
    (q.filter (fun g => g.id ≠ f.id)).countP p < q.countP p := by
  rw [List.countP_eq_countP_filter_add q p (fun g => decide (g.id ≠ f.id))]
  exact Nat.lt_add_of_pos_right (List.countP_pos_iff.2 ⟨f, List.mem_filter.2 ⟨hf, by simp⟩, hp⟩)

/-- A queued frame that leaves frees its entry, and what may move in from the backlog takes that one. -/
theorem Line.queuesOk_leave (h : l.queuesOk) (hf : f ∈ l.queue) : (Line.leave f l).queuesOk := by
  obtain ⟨hsorted, hgeneral, hkept, hbacklog⟩ := h
  have hsub : (l.queue.filter (fun g => g.id ≠ f.id)).Sublist l.queue := List.filter_sublist
  have hrest : Line.queuesOk { l with queue := l.queue.filter (fun g => g.id ≠ f.id) } :=
    ⟨hsorted.sublist hsub, hsub.countP_le.trans hgeneral, hsub.countP_le.trans hkept, hbacklog⟩
  refine Line.queuesOk_refill hrest ?_
  unfold Line.HasEntry
  split
  next hk => exact (countP_without_lt hf hk).trans_le hkept
  next hk => exact (countP_without_lt hf (p := fun g => !g.kept) (by simpa using hk)).trans_le hgeneral

end

/-- The bounds and the order of the outbound queue and its backlog are kept by every kind of write (R180, R181). -/
theorem queuesOk_keptByWrites : KeptByWrites (fun s => s.line.queuesOk) where
  beside := by
    rintro s _ ⟨_, _, _, _, _, _, _, _, _, _, _, rfl⟩ hs
    exact hs
  aroundQueue := by
    rintro s _ ⟨_, _, _, _, _, _, rfl⟩ hs
    exact hs
  order _ _ _ _ hs := Line.queuesOk_offerOrder hs _
  query d k q front hs := offerQuery_queuesOk hs d k q front
  outcome _ _ hs := Line.queuesOk_offerReply hs rfl
  leave hf hs := Line.queuesOk_leave hs hf
  raise _ _ _ _ hs := hs
  respond _ hs := hs
  notice hs := hs
  zeros _ hs := hs
  read _ hs := hs
  transact _ _ hs := hs
  emptied _ := ⟨List.Pairwise.nil, Nat.zero_le _, Nat.zero_le _, Nat.zero_le _⟩
  cold _ := ⟨List.Pairwise.nil, Nat.zero_le _, Nat.zero_le _, Nat.zero_le _⟩
  sets _ _ hs := hs
  tanks _ _ hs := hs
  zones _ _ hs := hs
  buses _ _ hs := hs
  feeders _ _ hs := hs
  accounts _ _ hs := hs
  nodes _ _ hs := hs

/-! ## SUPPORT. The frames of one class, before and after a frame is put in (R180) -/

/-- The frames of a class, in the order they stand in. -/
def ofClass (c : FrameClass) (q : List OutFrame) : List OutFrame := q.filter (fun g => g.cls = c)

section
variable {c : FrameClass} {f : OutFrame}

theorem ofClass_append (p q : List OutFrame) : ofClass c (p ++ q) = ofClass c p ++ ofClass c q :=
  List.filter_append ..
theorem ofClass_cons_self (q : List OutFrame) : ofClass f.cls (f :: q) = f :: ofClass f.cls q :=
  List.filter_cons_of_pos (decide_eq_true rfl)
theorem ofClass_cons_ne (h : c ≠ f.cls) (q : List OutFrame) : ofClass c (f :: q) = ofClass c q :=
  List.filter_cons_of_neg (by simpa using h.symm)
theorem ofClass_eq_nil {q : List OutFrame} (h : ∀ g ∈ q, g.cls.code ≠ c.code) : ofClass c q = [] :=
  List.filter_eq_nil_iff.2 (fun g hg => by simpa using fun hc => h g hg (congrArg _ hc))

/-- A queue cut in two holds of each class what its two parts hold. -/
theorem ofClass_cut (p : OutFrame → Bool) (q : List OutFrame) :
    ofClass c (q.takeWhile p) ++ ofClass c (q.dropWhile p) = ofClass c q := by
  rw [← ofClass_append, List.takeWhile_append_dropWhile]

/-- Putting a frame in, either way, leaves the frames of every other class as they stood. -/
theorem ofClass_queueBack_ne (h : c ≠ f.cls) (q : List OutFrame) : ofClass c (queueBack q f) = ofClass c q := by
  rw [queueBack, ofClass_append, ofClass_cons_ne h, ofClass_cut]
theorem ofClass_queueFront_ne (h : c ≠ f.cls) (q : List OutFrame) : ofClass c (queueFront q f) = ofClass c q := by
  rw [queueFront, ofClass_append, ofClass_cons_ne h, ofClass_cut]

/-- Before the head of its class a queue holds no frame of the class. -/
theorem ofClass_queueFront_self (q : List OutFrame) : ofClass f.cls (queueFront q f) = f :: ofClass f.cls q := by
  have hnone : ofClass f.cls (q.takeWhile (fun g => decide (g.cls.code < f.cls.code))) = [] := by
    refine ofClass_eq_nil (fun g hg => ?_)
    have hlower : g.cls.code < f.cls.code := by simpa using List.mem_takeWhile_imp hg
    exact hlower.ne
  have hafter := ofClass_cut (c := f.cls) (fun g => decide (g.cls.code < f.cls.code)) q
  rw [hnone, List.nil_append] at hafter
  rw [queueFront, ofClass_append, ofClass_cons_self, hnone, hafter, List.nil_append]

variable {q : List OutFrame} (h : q.Pairwise (fun a b => a.cls.code ≤ b.cls.code))
include h

/-- Behind the end of its class a queue in order holds no frame of the class. -/
theorem ofClass_queueBack_self : ofClass f.cls (queueBack q f) = ofClass f.cls q ++ [f] := by
  have hafter := all_dropWhile_of_sorted h (p := fun a => decide (a ≤ f.cls.code))
    (by simp only [decide_eq_true_eq]; omega)
  have hnone : ofClass f.cls (q.dropWhile (fun g => decide (g.cls.code ≤ f.cls.code))) = [] :=
    ofClass_eq_nil (fun g hg => by have := of_decide_eq_false (hafter g hg); omega)
  have hbefore := ofClass_cut (c := f.cls) (fun g => decide (g.cls.code ≤ f.cls.code)) q
  rw [hnone, List.append_nil] at hbefore
  rw [queueBack, ofClass_append, ofClass_cons_self, hnone, hbefore]

end

end Sys2Proof.Machine

/-! ## SUPPORT. The bytes of a frame read back (R178) -/

namespace Sys2Proof

theorem beNat_concat (bs : List Byte) (b : Byte) : beNat (bs ++ [b]) = beNat bs * 256 + b.toNat := by
  simp [beNat]

@[simp] theorem beBytes_length (k n : Nat) : (beBytes k n).length = k := by
  induction k generalizing n with
  | zero => rfl
  | succ k ih => rw [beBytes, List.length_append, ih, List.length_singleton]

/-- The bytes of a number that fits them spell it. -/
theorem beNat_beBytes {k n : Nat} (h : n < 256 ^ k) : beNat (beBytes k n) = n := by
  induction k generalizing n with
  | zero => exact (Nat.lt_one_iff.1 h).symm
  | succ k ih =>
    have hhigh : n / 256 < 256 ^ k := Nat.div_lt_of_lt_mul (by rwa [pow_succ'] at h)
    rw [beBytes, beNat_concat, ih hhigh, BitVec.toNat_ofNat]
    omega

end Sys2Proof

namespace Sys2Proof.Machine

@[simp] theorem FrameClass.ofCode_code (c : FrameClass) : FrameClass.ofCode c.code = c := by cases c <;> rfl

theorem FrameClass.code_lt (c : FrameClass) : c.code < 4 := by cases c <;> decide

/-- A header with the length of its payload, the payload, and their CRC pass every check of a frame. -/
theorem parseFrame_of_crc {b0 b1 kind len : Byte} {payload : List Byte} (hlen : len.toNat = payload.length)
    (hmax : payload.length ≤ 32) :
    parseFrame (b0 :: b1 :: kind :: len ::
        (payload ++ beBytes 2 (crc (b0 :: b1 :: kind :: len :: payload)).toNat)) =
      some (b1.toNat % 64,
        { cls := FrameClass.ofCode (b0.toNat / 64), source := b0.toNat % 64, kind := kind.toNat, payload }) := by
  have hcrc := beNat_beBytes (k := 2) (crc (b0 :: b1 :: kind :: len :: payload)).isLt
  simp [parseFrame, hlen, hcrc, Config.payloadMax, hmax]

/-! ## SUPPORT. FRAME_RECEIVE: the acknowledgement slot, and the inbound slot taken (R178, R186) -/

section
variable {l : Line} {n : Nat} {f : InFrame}

/-- The free slot taken is the one below which every slot is taken (log 83). -/
theorem Line.freeSlot_eq_some (hlow : 1 ≤ n) (hhigh : n ≤ 4) (hfree : ∀ t ∈ l.slots, t.number ≠ n)
    (htaken : ∀ k, 1 ≤ k → k < n → ∃ t ∈ l.slots, t.number = k) : l.freeSlot = some n := by
  refine List.find?_range'_eq_some.2 ⟨by simpa using hfree, ?_, fun k hk hkn => ?_⟩
  · simp only [List.mem_range'_1, Config.inboundSlots]; omega
  · simpa using htaken k hk hkn

theorem Line.freeSlot_eq_none (htaken : ∀ k, 1 ≤ k → k ≤ 4 → ∃ t ∈ l.slots, t.number = k) : l.freeSlot = none := by
  refine List.find?_eq_none.2 (fun k hk => ?_)
  simp only [List.mem_range'_1, Config.inboundSlots] at hk
  simpa using htaken k hk.1 (by omega)

/-- Closing an exchange that is not open changes nothing. -/
theorem Line.closeExchange_if_open (l : Line) (node : Nat) :
    (if (l.exchangeWith node).isSome then l.closeExchange node else l) = l.closeExchange node := by
  split
  next => rfl
  next h =>
    have hnone : l.exchangeWith node = none := by simpa using h
    have hkeep : l.exchanges.filter (fun x => x.dest ≠ node) = l.exchanges :=
      List.filter_eq_self.2 (fun x hx => by simpa using List.find?_eq_none.1 hnone x hx)
    rw [Line.closeExchange, hkeep]

/-- A REPLY closes the exchange open with its source, and the slot it takes remembers it (R184). -/
theorem Line.admitTo_of_reply (h : f.cls = .reply) (n : Nat) : l.admitTo n f = { l with
    slots := l.slots ++ [{ number := n, frame := f, closes := l.exchangeWith f.source }]
    exchanges := l.exchanges.filter (fun x => x.dest ≠ f.source), answered := .ack } := by
  have hcloses : l.closedBy f = l.exchangeWith f.source := by rw [Line.closedBy, h]
  simp only [Line.admitTo, hcloses, Line.closeExchange_if_open]
  rfl

/-- A frame of another class closes none. -/
theorem Line.admitTo_of_not_reply (h : f.cls ≠ .reply) (n : Nat) : l.admitTo n f =
    { l with slots := l.slots ++ [{ number := n, frame := f, closes := none }], answered := .ack } := by
  have hcloses : l.closedBy f = none := by
    unfold Line.closedBy
    split
    next hc => exact absurd hc h
    all_goals rfl
  simp [Line.admitTo, hcloses]

end

section
variable {s : State} {bytes : List Byte}

theorem exec_frameReceive (h : s.resetHeld = false) :
    exec (.frameReceive bytes) s = .next (receiveFrame bytes s) :=
  congrArg Host.Outcome.next (if_neg (by simp [h]))

variable (hrx : s.line.rxHold = none) (htx : s.line.txHold = none)
include hrx htx

/-- A frame that fails its checks, or is for another node, finds the acknowledgement slot empty. -/
theorem receiveFrame_of_not_taken
    (h : parseFrame bytes = none ∨ ∃ d f, parseFrame bytes = some (d, f) ∧ d ≠ 1) :
    receiveFrame bytes s = s.onLine (fun l => { l with answered := .nothing }) := by
  rcases h with hnone | ⟨d, f, hparsed, hd⟩
  · simp [receiveFrame, State.onLine, Line.idle, hrx, htx, hnone]
  · simp [receiveFrame, State.onLine, Line.idle, hrx, htx, hparsed, Config.ownAddress, hd]

theorem receiveFrame_of_ours {f : InFrame} (h : parseFrame bytes = some (1, f)) :
    receiveFrame bytes s = s.onLine (Line.receive f) := by
  simp [receiveFrame, State.onLine, Line.idle, hrx, htx, h, Config.ownAddress]

end

/-! ## SUPPORT. UNKNOWN_KIND_FRAME (R187) -/

/-- A frame of no known kind that closes nothing leaves its slot, and is discarded as one from an unknown source where
its source is one. -/
theorem dispatchUnknownKind_of_closes_none {s : State} {n : Nat} {x : Slot} {mine : Message → Bool}
    (hx : s.line.dispatchable n = some x) (hcloses : x.closes = none) (hm : mine (x.frame.message none) = true) :
    dispatchSlot n mine dispatchUnknownKind s =
      if s.knownNode x.frame.source then s.onLine (Line.freeAt n)
      else raise .unknownNode .nodes x.frame.source none (s.onLine (Line.freeAt n)) := by
  simp only [dispatchSlot, hx, hcloses, hm, if_true, dispatchUnknownKind, discardUnknown, closedUnanswered_none]
  rfl

theorem State.knownNode_iff {s : State} {a : Nat} :
    s.knownNode a = true ↔ a ≠ 1 ∧ (s.node? a).isSome = true := by
  rw [State.knownNode, Bool.and_eq_true, decide_eq_true_eq]; rfl

/-! ## SUPPORT. Sending: arbitration, and a frame that leaves the queue (R179, R182, R183) -/

/-- The hold of a frame has no part in its leaving the queue. -/
theorem Line.leave_setTxHold (f : OutFrame) (l : Line) (hold : Option Nat) :
    Line.leave f { l with txHold := hold } = { Line.leave f l with txHold := hold } := by
  unfold Line.leave Line.refill
  dsimp only
  split <;> rfl

@[simp] theorem Line.leave_exchanges (f : OutFrame) (l : Line) : (Line.leave f l).exchanges = l.exchanges := by
  unfold Line.leave Line.refill
  dsimp only
  split <;> rfl

theorem winsLine_iff {cls : FrameClass} {others : List (Nat × Nat)} :
    winsLine cls others = true ↔ ∀ c ∈ others, cls.code < c.1 ∨ (cls.code = c.1 ∧ 1 < c.2) := by
  simp only [winsLine, List.all_eq_true, decide_eq_true_eq]; rfl

section
variable {s : State} {f : OutFrame}

/-- An acknowledged ORDER or QUERY leaves the queue and opens an exchange (R184). -/
theorem frameAcknowledged_opens (h : f.cls = .order ∨ f.cls = .query) :
    frameAcknowledged f s = s.onLine (fun l => { Line.leave f l with
      exchanges := l.exchanges ++ [{ id := f.id, dest := f.dest, kind := f.kind, purpose := f.purpose }] }) := by
  rcases h with h | h <;> simp [frameAcknowledged, Line.openExchange, h]

/-- An acknowledged REPLY leaves the queue. -/
theorem frameAcknowledged_reply (h : f.cls = .reply) : frameAcknowledged f s = s.onLine (Line.leave f) := by
  simp [frameAcknowledged, Line.openExchange, h]

/-- A REPLY left unanswered, or a frame whose answer no block awaits, leaves the queue (R183). -/
theorem frameUnanswered_dropped (h : f.cls = .reply ∨ f.purpose = .nothing) :
    frameUnanswered f s = s.onLine (Line.leave f) := by
  unfold frameUnanswered
  rcases h with h | h
  · rw [h]
  · rw [h]; cases f.cls <;> rfl

theorem exec_sendFrame (h : s.resetHeld = false) (others : List (Nat × Nat)) (answer : AckAnswer) :
    exec (.sendFrame others answer) s = .next (sendFrame others answer s) :=
  congrArg Host.Outcome.next (unlessHeld_free h)

/-- On an idle line the first frame that may be sent is driven when it wins, and stays when it loses. -/
theorem sendFrame_of_next (hrx : s.line.rxHold = none) (htx : s.line.txHold = none)
    (hnext : s.line.nextToSend = some f) (others : List (Nat × Nat)) (answer : AckAnswer) :
    sendFrame others answer s = if winsLine f.cls others then driveFrame f answer s else s := by
  simp [sendFrame, Line.idle, hrx, htx, hnext]

/-! ## SUPPORT. The end of a hold on a frame sent (R183) -/

theorem exec_sendHoldAnswer (h : s.resetHeld = false) (accepted : Bool) :
    exec (.sendHoldAnswer accepted) s = .next (endSendHold accepted s) :=
  congrArg Host.Outcome.next (unlessHeld_free h)

theorem exec_sendHoldExpiry (h : s.resetHeld = false) : exec .sendHoldExpiry s = .next (endSendHold false s) :=
  congrArg Host.Outcome.next (unlessHeld_free h)

/-- The frame on hold is acknowledged or left unanswered, the hold over. -/
theorem endSendHold_of_held (hhold : s.line.txHold = some f.id)
    (hqueued : s.line.queue.find? (fun g => g.id = f.id) = some f) (acknowledged : Bool) :
    endSendHold acknowledged s =
      if acknowledged then frameAcknowledged f (s.onLine (fun l => { l with txHold := none }))
      else frameUnanswered f (s.onLine (fun l => { l with txHold := none })) := by
  simp only [endSendHold, hhold, hqueued]

end

/-! ## SUPPORT. REPLY_DEADLINE (R184) -/

section
variable {s : State}

theorem exec_replyDeadline (h : s.resetHeld = false) (node : Nat) :
    exec (.replyDeadline node) s = .next (replyDeadlineEnds node s) :=
  congrArg Host.Outcome.next (unlessHeld_free h)

theorem replyDeadlineEnds_of_none {node : Nat} (h : s.line.exchangeWith node = none) :
    replyDeadlineEnds node s = s := by
  rw [replyDeadlineEnds, h]

theorem replyDeadlineEnds_of_open {node : Nat} {e : Exchange} (h : s.line.exchangeWith node = some e) :
    replyDeadlineEnds node s = noAnswerFor e.id e.purpose (s.onLine (Line.closeExchange node)) := by
  rw [replyDeadlineEnds, h]

/-- A boundary read that serves no poll and is left unanswered marks its feeder unread, and no more is asked (R72,
R80). -/
theorem readOutcome_none_of_boundary {n : Nat} {f : FeederRead} (hread : (s.feederRec n).inFlight = some f)
    (hboundary : f.boundary = true) (hserves : f.servesPass = false) :
    readOutcome n f.frame none s =
      s.updFeeder n (fun r => { r with inFlight := none, unread := true, boundary := false }) := by
  have htaken (u : State) : readTaken n f none u =
      u.updFeeder n (fun r => { r with unread := true, boundary := false }) := by
    simp [readTaken, readUnanswered, hboundary]
  simp only [readOutcome, hread, if_true, htaken, hserves, Bool.false_eq_true, if_false,
    State.updFeeder_updFeeder]
  rfl

end

end Sys2Proof.Machine

/-! ## The statements of the site line, settled -/

namespace Sys2Proof.Proofs

open Sys2Proof.Machine

/-- Settles O14: a frame enters the queue in order of class and only into a free entry, and what moves in from the
backlog takes the entry of the frame that left. -/
theorem lineInvariantKept : Obligations.LineInvariantKept := queuesOk_keptByWrites.step_kept

/-- Settles O15: each byte of the header gives back what was packed into it, and the CRC of the bytes read is the one
sent. -/
theorem siteFrameRoundTrip : Obligations.SiteFrameRoundTrip := by
  intro f hdest hkind hlength
  have hcls := f.cls.code_lt
  have hlen : (BitVec.ofNat 8 f.payload.length).toNat = f.payload.length := by
    rw [BitVec.toNat_ofNat]; omega
  refine (parseFrame_of_crc hlen hlength).trans ?_
  have hd : (BitVec.ofNat 8 f.dest).toNat % 64 = f.dest := by rw [BitVec.toNat_ofNat]; omega
  have hk : (BitVec.ofNat 8 f.kind).toNat = f.kind := by rw [BitVec.toNat_ofNat]; omega
  have hfirst : (BitVec.ofNat 8 (64 * f.cls.code + Config.ownAddress)).toNat = 64 * f.cls.code + 1 := by
    rw [BitVec.toNat_ofNat, Config.ownAddress]; omega
  have hc : (64 * f.cls.code + 1) / 64 = f.cls.code := by omega
  have hsource : (64 * f.cls.code + 1) % 64 = 1 := by omega
  rw [hd, hk, hfirst, hc, hsource, FrameClass.ofCode_code]

/-- Settles O16: what is not for the part leaves the slot empty, and the free slot found says whether a frame is taken
or held. -/
theorem frameReceive : Obligations.FrameReceive := by
  intro s bytes hreset hrx htx
  rw [exec_frameReceive hreset]
  refine ⟨fun h => by rw [receiveFrame_of_not_taken hrx htx h]; rfl, fun f n hparsed hlow hhigh hfree htaken => ?_,
    fun f hparsed htaken => ?_⟩
  · have hadmit : receiveFrame bytes s = s.onLine (Line.admitTo n f) := by
      rw [receiveFrame_of_ours hrx htx hparsed, State.onLine, Line.receive,
        Line.freeSlot_eq_some hlow hhigh hfree htaken]
      rfl
    refine ⟨fun hcls => ?_, fun hcls => ?_⟩
    · rw [hadmit, State.onLine, Line.admitTo_of_not_reply hcls]
    · rw [hadmit, State.onLine, Line.admitTo_of_reply hcls]
      rfl
  · rw [receiveFrame_of_ours hrx htx hparsed, State.onLine, Line.receive, Line.freeSlot_eq_none htaken]

/-- Settles O19: the line won or lost is one condition on the contenders, and what the destination answers to a frame
driven is one equation of the frame acknowledged or left unanswered. -/
theorem sendFrame : Obligations.SendFrame := by
  intro s others f hreset hrx htx hnext u
  have hexec (answer : AckAnswer) : exec (.sendFrame others answer) s =
      .next (if winsLine f.cls others then driveFrame f answer s else s) := by
    rw [exec_sendFrame hreset, sendFrame_of_next hrx htx hnext]
  refine ⟨fun ⟨c, hc, hlower⟩ answer => ?_, fun hwins => ?_⟩
  · have hloses : ¬ winsLine f.cls others = true := fun hw => by
      have := winsLine_iff.1 hw c hc
      omega
    rw [hexec, if_neg hloses]
  · have hdriven (answer : AckAnswer) : exec (.sendFrame others answer) s = .next (driveFrame f answer s) := by
      rw [hexec, if_pos (winsLine_iff.2 hwins)]
    refine ⟨fun hall answer => ?_, fun hone => ?_⟩
    · rw [hdriven, driveFrame, if_pos hall]
    · have htakes (answer : AckAnswer) : exec (.sendFrame others answer) s = .next (takeAnswer f answer u) := by
        rw [hdriven, driveFrame, if_neg hone]
      refine ⟨fun hcls => ?_, fun hcls => ⟨?_, ?_, ?_⟩, htakes .hold⟩
      · rw [htakes, takeAnswer, frameAcknowledged_opens hcls]
      · rw [htakes, takeAnswer, frameAcknowledged_reply hcls]
      · rw [htakes, takeAnswer, frameUnanswered_dropped (.inl hcls)]
      · rw [htakes, takeAnswer, frameUnanswered_dropped (.inl hcls)]

/-- Settles O20: the hold over, its frame is acknowledged or left unanswered, and leaves the queue as it would with the
hold running. -/
theorem sendHold : Obligations.SendHold := by
  intro s f hreset hhold hqueued
  refine ⟨fun hcls => ?_, ?_, fun hdropped => ?_⟩
  · rw [exec_sendHoldAnswer hreset, endSendHold_of_held hhold hqueued, if_pos rfl, frameAcknowledged_opens hcls]
    simp only [State.onLine, Line.leave_setTxHold]
  · rw [exec_sendHoldAnswer hreset, exec_sendHoldExpiry hreset]
  · rw [exec_sendHoldExpiry hreset, endSendHold_of_held hhold hqueued, if_neg (by decide),
      frameUnanswered_dropped hdropped]
    simp only [State.onLine, Line.leave_setTxHold]

/-- Settles O21: the exchange closes first, and its purpose names what no answer does. -/
theorem replyDeadline : Obligations.ReplyDeadline := by
  intro s node hreset u
  rw [exec_replyDeadline hreset]
  refine ⟨fun hnone => by rw [replyDeadlineEnds_of_none hnone], fun e he => ?_⟩
  have hends : replyDeadlineEnds node s = noAnswerFor e.id e.purpose u := replyDeadlineEnds_of_open he
  refine ⟨fun hp => ?_, fun tank serial hp => ?_, fun n f hp hread hframe hboundary hserves => ?_⟩
  · rw [hends, hp]; rfl
  · rw [hends, hp]; rfl
  · have hu : (u.feederRec n).inFlight = some f := hread
    rw [hends, hp, ← hframe]
    exact congrArg Host.Outcome.next (readOutcome_none_of_boundary hu hboundary hserves)

/-- Settles O22: the queue is cut where the class ends, or begins, so the frame put in between has its whole class on
one side. -/
theorem queueOrder : Obligations.QueueOrder := by
  intro q f hsorted
  exact ⟨queueBack_sorted f hsorted, queueFront_sorted f hsorted, ofClass_queueBack_self hsorted,
    ofClass_queueFront_self q, fun c hc => ⟨ofClass_queueBack_ne hc q, ofClass_queueFront_ne hc q⟩⟩

/-- Settles O17: the expiry of a running hold writes the hold and the acknowledgement slot. -/
theorem receiveHoldExpiry : Obligations.ReceiveHoldExpiry := by
  intro s f hreset hhold
  have hexec : exec .receiveHoldExpiry s = .next (endReceiveHold s) :=
    congrArg Host.Outcome.next (unlessHeld_free hreset)
  rw [hexec, endReceiveHold, State.onLine, hhold, Option.isSome_some, if_pos rfl]

/-- Settles O18: with no frame on hold the slot is freed and no more, and the source is then a known node or not. -/
theorem unknownKindFrame : Obligations.UnknownKindFrame := by
  intro s n x hx hcloses hm hhold u
  have hfree : s.onLine (Line.freeAt n) = u :=
    congrArg (fun l => { s with line := l }) (Line.freeAt_of_noHold hhold n)
  have hexec : exec (.unknownKindFrame n) s = .next (if s.knownNode x.frame.source then u
      else raise .unknownNode .nodes x.frame.source none u) := by
    rw [← hfree]
    exact congrArg Host.Outcome.next (dispatchUnknownKind_of_closes_none hx hcloses (by rw [hm]))
  refine ⟨fun hother hknown => ?_, fun hunknown => ?_⟩
  · rw [hexec, if_pos (State.knownNode_iff.2 ⟨hother, hknown⟩)]
  · have hnot : ¬ s.knownNode x.frame.source = true := fun h => by
      obtain ⟨hother, hsome⟩ := State.knownNode_iff.1 h
      rcases hunknown with hown | hnone
      · exact hother hown
      · rw [hnone] at hsome; exact Bool.false_ne_true hsome
    rw [hexec, if_neg hnot]

end Sys2Proof.Proofs

/-! ## SUPPORT. The transactions of the port, each by what it finds in the slots (R192 to R194) -/

namespace Sys2Proof.Machine

section
variable {p : Port} {r : Response} {k : Nat}

theorem clockOut_whole {frame : List Byte} (h : frame.length ≤ k) :
    clockOut frame k = frame ++ List.replicate (k - frame.length) 0 := by
  rw [clockOut, List.take_of_length_le h]

theorem clockOut_part {frame : List Byte} (h : k ≤ frame.length) : clockOut frame k = frame.take k := by
  rw [clockOut, Nat.sub_eq_zero_of_le h, List.replicate_zero, List.append_nil]

theorem clockOut_nil (k : Nat) : clockOut [] k = List.replicate k 0 := clockOut_whole (Nat.zero_le k)

theorem readPort_none (h : p.response = none) (k : Nat) : readPort k p = { p with pdo := List.replicate k 0 } := by
  simp only [readPort, h, clockOut_nil]

/-- A response clocked out whole leaves the slot. -/
theorem readPort_whole (h : p.response = some r) (hk : r.bytes.length ≤ k) : readPort k p =
    { p with response := none, rdy := false, pdo := r.bytes ++ List.replicate (k - r.bytes.length) 0 } := by
  simp only [readPort, h, if_pos hk, clockOut_whole hk, Port.taken]

/-- A READ that ends early leaves the response. -/
theorem readPort_part (h : p.response = some r) (hk : k < r.bytes.length) :
    readPort k p = { p with pdo := r.bytes.take k } := by
  simp only [readPort, h, if_neg (Nat.not_le.2 hk), clockOut_part hk.le]

theorem writePort_occupied (h : p.request.isSome ∨ p.response.isSome) (bytes : List Byte) (bits : Nat) :
    writePort bytes bits p = { p with overrun := true } := if_pos (Bool.or_eq_true_iff.2 h)

theorem writePort_empty (hq : p.request = none) (hr : p.response = none) (bytes : List Byte) (bits : Nat) :
    writePort bytes bits p = acceptWrite (parseRequest bytes bits) p := by
  rw [writePort, hq, hr]
  exact if_neg Bool.false_ne_true

theorem acceptWrite_known {q : Request} (h : (ReqKind.ofCode q.kind).isSome) :
    acceptWrite (some q) p = { p with request := some q } := if_pos h

theorem acceptWrite_unknown {q : Request} (h : ReqKind.ofCode q.kind = none) :
    acceptWrite (some q) p = p.respond { answer := unknownRequest q } := by
  rw [acceptWrite, h]
  exact if_neg Bool.false_ne_true

/-- With no request that waits, placing a response writes the response slot, RDY and the overrun mark. -/
theorem Port.respond_of_no_request (h : p.request = none) (r : Response) : p.respond r =
    { p with response := some { r with overrun := p.overrun }, rdy := true, overrun := false } := by
  rw [Port.respond, ← h]

end

/-- The ring of a request of an unknown kind is checked before its kind (R174). -/
theorem unknownRequest_eq (q : Request) : unknownRequest q =
    if q.ring = 0 ∨ q.ring = 1 ∨ q.ring = 3 then .outOfRange else .ringInvalid := by
  unfold unknownRequest effectiveRing
  split <;> rfl

/-- A field list is whole 6-byte pairs. -/
theorem length_of_fieldPairs : ∀ {bs : List Byte} {fs : Fields}, fieldPairs bs = some fs → bs.length = 6 * fs.length
  | [], fs, h => by cases h; rfl
  | a :: b :: c :: d :: e :: f :: t, fs, h => by
    obtain ⟨rest, hrest, rfl⟩ := Option.map_eq_some_iff.1 h
    have := length_of_fieldPairs hrest
    simp only [List.length_cons]
    omega

/-- A frame that parses has passed every check of its framing (R192). -/
theorem sound_of_parseRequest {bytes : List Byte} {bits : Nat} {q : Request} (h : parseRequest bytes bits = some q) :
    bits = 0 ∧ 10 ≤ bytes.length ∧ beNat (bytes.take 2) + 2 = bytes.length ∧ beNat (bytes.take 2) ≤ 1022
      ∧ bytes.length % 6 = 4 := by
  unfold parseRequest at h
  split at h
  next l1 l0 kind ring table sel i3 i2 i1 i0 rest =>
    dsimp only at h
    split at h
    next hlen =>
      obtain ⟨hbits, hlen, hmax⟩ := hlen
      obtain ⟨fs, hfs, -⟩ := Option.map_eq_some_iff.1 h
      have hpairs := length_of_fieldPairs hfs
      simp only [List.length_cons, List.take_succ_cons, List.take_zero]
      omega
    next => cases h
  next => cases h

/-- Outside a line reset, READ and WRITE are what the port makes of them. -/
theorem exec_read {s : State} (h : s.resetHeld = false) (k : Nat) :
    exec (.read k) s = .next { s with port := readPort k s.port } := by
  have hread : (if s.resetHeld = true then Port.zeros k else readPort k) = readPort k :=
    if_neg (fun hheld => Bool.false_ne_true (h.symm.trans hheld))
  exact congrArg (fun f => Host.Outcome.next (s.onPort f)) hread

theorem exec_write {s : State} (h : s.resetHeld = false) (bytes : List Byte) (bits : Nat) :
    exec (.write bytes bits) s = .next { s with port := transact bytes bits s.port } :=
  congrArg Host.Outcome.next (unlessHeld_free h)

end Sys2Proof.Machine

/-! ## SUPPORT. A notice that joins the queue, and the one TAKE_NOTICE removes (R195 to R197) -/

namespace Sys2Proof.Machine

theorem any_sameSubject_iff {n : Notice} {ms : List Notice} : ms.any n.sameSubject = true ↔
    ∃ m ∈ ms, m.kind = n.kind ∧ m.table = n.table ∧ m.index = n.index := by
  simp only [List.any_eq_true, Notice.sameSubject, decide_eq_true_eq, @eq_comm _ n.kind, @eq_comm _ n.table,
    @eq_comm _ n.index]

section
variable {n : Notice} {p : Port}

/-- A notice that coalesces with one that waits changes nothing. -/
theorem Port.append_waiting (hk : n.kind.coalesces = true) (h : p.notices.any n.sameSubject = true) :
    p.append n = p := if_pos (Bool.and_eq_true_iff.2 ⟨hk, h⟩)

section
variable (h : ¬ (n.kind.coalesces = true ∧ p.notices.any n.sameSubject = true))
include h

theorem Port.append_room (hroom : p.notices.length < 32) :
    p.append n = { p with notices := p.notices ++ [n], attn := true } := by
  rcases p.append_cases n with ⟨hk, hwaits, -⟩ | ⟨hfull, -⟩ | ⟨-, -, e⟩
  · exact absurd ⟨hk, hwaits⟩ h
  · exact absurd hroom (Nat.not_lt.2 hfull)
  · exact e

theorem Port.append_full (hfull : 32 ≤ p.notices.length) : p.append n = { p with overflow := true } := by
  rcases p.append_cases n with ⟨hk, hwaits, -⟩ | ⟨-, e⟩ | ⟨hroom, -⟩
  · exact absurd ⟨hk, hwaits⟩ h
  · exact e
  · exact absurd hroom (Nat.not_lt.2 hfull)

end

theorem Port.takeNotice_nil (h : p.notices = []) :
    p.takeNotice = ({ p with overflow := false }, { answer := .empty, overflow := p.overflow }) := by
  rw [Port.takeNotice, h]

theorem Port.takeNotice_cons {rest : List Notice} (h : p.notices = n :: rest) : p.takeNotice =
    ({ p with notices := rest, attn := !rest.isEmpty, overflow := false },
      { answer := .done, overflow := p.overflow, notice := some (n, rest.length) }) := by
  simp only [Port.takeNotice, Port.dropHead, h, List.tail_cons]

end

/-- A TAKE_NOTICE on the port passes checks 1 to 4 at any ring there is, whatever its index, selector and fields. -/
theorem exec_takeNotice_port {s : State} {q : Request} (hq : s.port.request = some q) (hkind : q.kind = 21)
    (htable : q.table = 0) (hring : q.ring = 0 ∨ q.ring = 1 ∨ q.ring = 3) : exec (.takeNotice .port) s =
      .next { s with port := s.port.takeNotice.1.respond s.port.takeNotice.2 } := by
  have htakes : s.takes .takeNotice .port = some (.port, q, s) := by simp only [State.takes, hq, hkind]; rfl
  have hpresents : Presents s .takeNotice .port { party := .port, ring := max 0 q.ring, req := q } s :=
    ⟨htakes, if_pos hring⟩
  have hmatched : q.matched .takeNotice = true := by rw [Request.matched, htable]; rfl
  exact answers_of_presents hpresents hmatched rfl

end Sys2Proof.Machine

/-! ## SUPPORT. What the port shows, kept by every write (R192, R193, R195, R196) -/

namespace Sys2Proof.Machine

section
variable {p : Port}

/-- The slots, the marks and PDO may be written in any way that keeps RDY true to the response slot. -/
theorem Port.ok.slots_written (h : p.ok) (request : Option Request) (response : Option Response)
    (overrun overflow : Bool) (pdo : List Byte) :
    Port.ok { p with request, response, rdy := response.isSome, overrun, overflow, pdo } := by
  obtain ⟨hlength, honce, hattn, -⟩ := h
  exact ⟨hlength, honce, hattn, rfl⟩

/-- What leaves the response slot and RDY alone keeps the one true to the other. -/
theorem Port.ok.beside_written (h : p.ok) (request : Option Request) (overrun overflow : Bool) (pdo : List Byte) :
    Port.ok { p with request, overrun, overflow, pdo } := by
  obtain ⟨hlength, honce, hattn, hrdy⟩ := h
  exact ⟨hlength, honce, hattn, hrdy⟩

theorem Port.ok.after_respond (h : p.ok) (r : Response) : (p.respond r).ok := h.slots_written _ (some _) _ _ _

theorem Port.ok.after_read (h : p.ok) (k : Nat) : (readPort k p).ok := by
  unfold readPort
  split
  · exact h.beside_written _ _ _ _
  · exact iteInduction (fun _ => h.slots_written _ none _ _ _) (fun _ => h.beside_written _ _ _ _)

theorem Port.ok.after_acceptWrite (h : p.ok) (frame : Option Request) : (acceptWrite frame p).ok := by
  cases frame with
  | none => exact h.after_respond _
  | some q => exact iteInduction (fun _ => h.beside_written _ _ _ _) (fun _ => h.after_respond _)

theorem Port.ok.after_transact (h : p.ok) (bytes : List Byte) (bits : Nat) : (transact bytes bits p).ok := by
  cases bytes with
  | nil => exact h.beside_written _ _ _ _
  | cons code rest =>
    refine iteInduction (fun _ => ?write) (fun _ =>
      iteInduction (fun _ => h.after_read _) (fun _ => h.beside_written _ _ _ _))
    case write => exact iteInduction (fun _ => h.beside_written _ _ _ _) (fun _ => h.after_acceptWrite _)

/-- The queue without its head holds fewer notices, and ATTN is written with it. -/
theorem Port.ok.after_takeNotice (h : p.ok) : p.takeNotice.1.ok := by
  cases hn : p.notices with
  | nil =>
    rw [Port.takeNotice_nil hn]
    exact h.beside_written _ _ _ _
  | cons n rest =>
    obtain ⟨hlength, honce, -, hrdy⟩ := h
    rw [hn] at hlength honce
    rw [Port.takeNotice_cons hn]
    exact ⟨(Nat.le_succ _).trans hlength, honce.of_cons, rfl, hrdy⟩

end

theorem Port.ok_empty : Port.ok {} := ⟨Nat.zero_le _, List.Pairwise.nil, rfl, rfl⟩

/-- After a cold start RESTARTED alone is queued (R198). -/
theorem Port.ok_reset : State.reset.port.ok := ⟨by decide, List.pairwise_singleton .., rfl, rfl⟩

/-- The bounds of the notice queue, and ATTN and RDY, are kept by every kind of write. -/
theorem portOk_keptByWrites : KeptByWrites (fun s => s.port.ok) where
  beside := by
    rintro s _ ⟨_, _, _, _, _, _, _, _, _, _, _, rfl⟩ hs
    exact hs
  aroundQueue := by
    rintro s _ ⟨_, _, _, _, _, _, rfl⟩ hs
    exact hs
  order _ _ _ _ hs := hs
  query {s} d k q front hs := by
    rcases offerQuery_cases d k q front s with ⟨-, _, e⟩ | ⟨-, e⟩ <;> rw [e] <;> exact hs
  outcome _ _ hs := hs
  leave _ hs := hs
  raise _ _ _ _ hs := Port.ok_append hs _
  respond r hs := hs.after_respond r
  notice hs := hs.after_takeNotice
  zeros _ hs := hs.beside_written _ _ _ _
  read k hs := hs.after_read k
  transact bytes bits hs := hs.after_transact bytes bits
  emptied _ := Port.ok_empty
  cold _ := Port.ok_reset
  sets _ _ hs := hs
  tanks _ _ hs := hs
  zones _ _ hs := hs
  buses _ _ hs := hs
  feeders _ _ hs := hs
  accounts _ _ hs := hs
  nodes _ _ hs := hs

end Sys2Proof.Machine

/-! ## The statements of the control port and the notices, settled -/

namespace Sys2Proof.Proofs

open Sys2Proof.Machine

/-- Settles O11: the port is written by raising a notice, by TAKE_NOTICE, by a response, by a transaction and by the
two resets, and each keeps what it shows. -/
theorem portInvariantKept : Obligations.PortInvariantKept := portOk_keptByWrites.step_kept

/-- Settles O6: with both slots empty the frame parses, to a kind that is known or not, or fails a check; the other
transactions are told apart by their first byte. -/
theorem writeTaken : Obligations.WriteTaken := by
  intro s bytes bits hreset
  refine ⟨fun hq hr => ?_, ?_, fun code hwrite hread => ?_, ?_⟩
  · have haccepted : exec (.write (1 :: bytes) bits) s =
        .next { s with port := acceptWrite (parseRequest bytes bits) s.port } := by
      rw [exec_write hreset, transact_write, writePort_empty hq hr]
    refine ⟨fun q hparsed hknown => ?_, fun q hparsed hunknown => ?_, fun hfails => ?_⟩
    · rw [haccepted, hparsed, acceptWrite_known hknown]
    · rw [haccepted, hparsed, acceptWrite_unknown hunknown, Port.respond_of_no_request hq, unknownRequest_eq]
    · have hnone : parseRequest bytes bits = none := by
        refine Option.eq_none_iff_forall_ne_some.2 fun q hparsed => ?_
        have := sound_of_parseRequest hparsed
        omega
      rw [haccepted, hnone]
      exact congrArg (fun port => Host.Outcome.next { s with port }) (Port.respond_of_no_request hq _)
  · rw [exec_write hreset]
    rfl
  · rw [exec_write hreset, transact_other hwrite hread]
    rfl
  · rw [exec_write hreset, transact_read, exec_read hreset]

/-- Settles O1: the queue put back behind the command is the one taken. -/
theorem stepRunsFrontCommand : Obligations.StepRunsFrontCommand := fun _ _ => rfl

/-- Settles O2: the state is the reset one with the queue kept, and each clause is read off it. -/
theorem coldStartPort : Obligations.ColdStartPort := fun s =>
  ⟨State.reset.setPending s.pending, rfl, rfl, rfl, rfl, rfl, rfl, rfl, rfl, rfl⟩

/-- Settles O4: a READ finds no response, or clocks it out whole, or ends before its last byte. -/
theorem readTransaction : Obligations.ReadTransaction := by
  intro s k hreset
  rw [exec_read hreset]
  exact ⟨fun r hr hk => by rw [readPort_whole hr hk], fun r hr hk => by rw [readPort_part hr hk],
    fun hr => by rw [readPort_none hr]⟩

/-- Settles O5: the discarded WRITE writes the overrun mark, and placing a response reads and clears it. -/
theorem writeOccupied : Obligations.WriteOccupied := by
  refine ⟨fun s bytes bits hreset hoccupied => ?_, fun p r => ⟨rfl, rfl⟩⟩
  rw [exec_write hreset, transact_write, writePort_occupied hoccupied]

/-- Settles O7: past the common checks the answer is the head of the queue or EMPTY. -/
theorem takeNotice : Obligations.TakeNotice := by
  intro s q hq hkind htable hring
  rw [exec_takeNotice_port hq hkind htable hring]
  refine ⟨fun n rest hn => ?_, fun hnone => ?_⟩
  · rw [Port.takeNotice_cons hn]
    rfl
  · rw [Port.takeNotice_nil hnone]
    rfl

/-- Settles O8: a notice coalesces with one that waits, or is new and meets a queue with room or a full one. -/
theorem noticeQueued : Obligations.NoticeQueued := by
  refine ⟨fun k => ?_, fun n p hk hwaits => Port.append_waiting hk (any_sameSubject_iff.2 hwaits),
    fun n p hnew => ?_⟩
  · cases k <;> decide
  · have hadds : ¬ (n.kind.coalesces = true ∧ p.notices.any n.sameSubject = true) := by
      rintro ⟨hk, hwaits⟩
      obtain ⟨m, hm, hsame⟩ := any_sameSubject_iff.1 hwaits
      rcases hnew with hnot | hnone
      · exact Bool.false_ne_true (hnot.symm.trans hk)
      · exact hnone m hm hsame
    exact ⟨Port.append_room hadds, Port.append_full hadds⟩

/-- Settles O12: a cold start is among the writes that establish each invariant. -/
theorem resetInvariants : Obligations.ResetInvariants :=
  ⟨portOk_keptByWrites.cold [], queuesOk_keptByWrites.cold [], tablesOk_keptByWrites.cold []⟩

end Sys2Proof.Proofs
